-- ==== Sys2Proof/Word.lean ====
section
/-! DEFINITION. The bit vectors of FSYNC and the raw words that reach its decoders: the pins of one clock
cycle (10_state.md R10, R12, R13) and the coded words of the five formats (30_encoding.md R57 to R68). -/

namespace Sys2Proof

/-- A byte of the stream or of FRAME (00_scope.md R6). -/
abbrev Byte := BitVec 8

/-- A nibble: a position marker, a payload, a count (00_scope.md R6). -/
abbrev Nibble := BitVec 4

/-- A host register or a bus data word (20_memory.md R47). -/
abbrev Word32 := BitVec 32

/-- A byte offset in the register space (20_memory.md R46). -/
abbrev Addr := BitVec 6

/-- FRAME[0..13], frame byte position k at index k - 1 (10_state.md R27). -/
abbrev Frame := Vector Byte 14

/-- The input pins of one clock cycle (10_state.md R10, R12, R13). -/
structure Pins where
  /-- Synchronous active-high reset (R10). -/
  rst : Bool
  /-- A received byte is presented in this cycle (R12). -/
  rxValid : Bool
  /-- The presented byte, meaningful only when `rxValid` (R12). -/
  rxData : Byte
  /-- The host writes in this cycle (R13). -/
  busWr : Bool
  /-- The host reads in this cycle (R13). -/
  busRd : Bool
  /-- The byte offset of the register (R13). -/
  busAddr : Addr
  /-- The write data (R13). -/
  busWdata : Word32
  deriving DecidableEq, Repr, Inhabited

/-- The pins of a cycle in which nothing is presented and the host does nothing. -/
def Pins.idle : Pins :=
  { rst := false, rxValid := false, rxData := 0#8, busWr := false, busRd := false,
    busAddr := 0#6, busWdata := 0#32 }

/-- A coded word, as it stands at the decoder that reads it. The formats are those of 30_encoding.md;
format CMD is a bus write to slot 0 (R57). -/
inductive Code where
  /-- Format BUS, a read: bus_addr (R58). -/
  | busRead (addr : Addr)
  /-- Formats BUS and CMD, a write: bus_addr and bus_wdata (R57, R58). -/
  | busWrite (addr : Addr) (data : Word32)
  /-- Format FRAME_BYTE: the byte the sequencer popped (R59). -/
  | frameByte (b : Byte)
  /-- Format DIGIT_PAIR: the pair of digit cell `cell`, its HB and its KEY = (REM, SEG) (R62). -/
  | digitPair (cell : Fin 4) (hb : Bool) (key : BitVec 7)
  /-- Format FLAG_NIBBLE: the 1-based frame position in the high nibble and the DATA nibble of the frame
  byte at that position (R68; log 8). -/
  | flagNibble (b : Byte)
  deriving DecidableEq, Repr

end Sys2Proof
end

