-- ==== Sys2Proof/Syntax.lean ====
section
/-! DEFINITION. The instructions of FSYNC: one constructor per row of spec/opcode_table.json. FSYNC runs no stored
program (10_state.md R11); its rows are the host's bus operations, the classes of stream bytes, and the rows of
the digit lookup table and of the flag multiplexer. -/

namespace Sys2Proof

/-- One row of spec/opcode_table.json with its operands. Bits the hardware ignores are operands too, so that no
word is lost (log 12). -/
inductive Instr where
  -- Host reads (format BUS, 20_memory.md R44): `lane` is bus_addr[1:0], which the hardware ignores (R46).
  /-- RD_CMD, 0x00 under mask 0x3C (R32). -/
  | rdCmd (lane : BitVec 2)
  /-- RD_STATUS, 0x04 under mask 0x3C (R33). -/
  | rdStatus (lane : BitVec 2)
  /-- RD_IRQ_EN, 0x08 under mask 0x3C (R34). -/
  | rdIrqEn (lane : BitVec 2)
  /-- RD_RETRY, 0x0C under mask 0x3C (R35). -/
  | rdRetry (lane : BitVec 2)
  /-- RD_TIMEOUT, 0x10 under mask 0x3C (R36). -/
  | rdTimeout (lane : BitVec 2)
  /-- RD_RESULT, 0x14 under mask 0x3C (R37). -/
  | rdResult (lane : BitVec 2)
  /-- RD_DIGITS, 0x18 under mask 0x3C (R38). -/
  | rdDigits (lane : BitVec 2)
  /-- RD_FLAGS, 0x1C under mask 0x3C (R39). -/
  | rdFlags (lane : BitVec 2)
  /-- RD_ALIGN, 0x20 under mask 0x3C (R40). -/
  | rdAlign (lane : BitVec 2)
  /-- RD_FRAME0, 0x24 under mask 0x3C (R41). -/
  | rdFrame0 (lane : BitVec 2)
  /-- RD_FRAME1, 0x28 under mask 0x3C (R41). -/
  | rdFrame1 (lane : BitVec 2)
  /-- RD_FRAME2, 0x2C under mask 0x3C (R41). -/
  | rdFrame2 (lane : BitVec 2)
  /-- RD_FRAME3, 0x30 under mask 0x3C (R41). -/
  | rdFrame3 (lane : BitVec 2)
  /-- RD_UNMAPPED_34, 0x34 under mask 0x3C (R42). -/
  | rdUnmapped34 (lane : BitVec 2)
  /-- RD_UNMAPPED_38, 0x38 under mask 0x3C (R42). -/
  | rdUnmapped38 (lane : BitVec 2)
  /-- RD_UNMAPPED_3C, 0x3C under mask 0x3C (R42). -/
  | rdUnmapped3C (lane : BitVec 2)
  -- Command writes (format CMD, 30_encoding.md R57): `lane` is bus_addr[1:0] and `rest` is bus_wdata[31:2], both ignored.
  /-- NOP, 0x00000000 under mask 0x00000003 (R85). -/
  | nop (lane : BitVec 2) (rest : BitVec 30)
  /-- SYNC, 0x00000001 under mask 0x00000003 (R88). -/
  | sync (lane : BitVec 2) (rest : BitVec 30)
  /-- READ, 0x00000002 under mask 0x00000003 (R111). -/
  | read (lane : BitVec 2) (rest : BitVec 30)
  /-- CMD_RESERVED, 0x00000003 under mask 0x00000003 (R86). -/
  | cmdReserved (lane : BitVec 2) (rest : BitVec 30)
  -- Host writes to slots 1 to 15 (format BUS, 20_memory.md R45): `lane` is bus_addr[1:0], ignored, and `data` is bus_wdata.
  /-- WR_STATUS, 0x04 under mask 0x3C (R33). -/
  | wrStatus (lane : BitVec 2) (data : Word32)
  /-- WR_IRQ_EN, 0x08 under mask 0x3C (R34). -/
  | wrIrqEn (lane : BitVec 2) (data : Word32)
  /-- WR_RETRY, 0x0C under mask 0x3C (R35). -/
  | wrRetry (lane : BitVec 2) (data : Word32)
  /-- WR_TIMEOUT, 0x10 under mask 0x3C (R36). -/
  | wrTimeout (lane : BitVec 2) (data : Word32)
  /-- WR_RESULT, 0x14 under mask 0x3C (R75). -/
  | wrResult (lane : BitVec 2) (data : Word32)
  /-- WR_DIGITS, 0x18 under mask 0x3C (R75). -/
  | wrDigits (lane : BitVec 2) (data : Word32)
  /-- WR_FLAGS, 0x1C under mask 0x3C (R75). -/
  | wrFlags (lane : BitVec 2) (data : Word32)
  /-- WR_ALIGN, 0x20 under mask 0x3C (R75). -/
  | wrAlign (lane : BitVec 2) (data : Word32)
  /-- WR_FRAME0, 0x24 under mask 0x3C (R75). -/
  | wrFrame0 (lane : BitVec 2) (data : Word32)
  /-- WR_FRAME1, 0x28 under mask 0x3C (R75). -/
  | wrFrame1 (lane : BitVec 2) (data : Word32)
  /-- WR_FRAME2, 0x2C under mask 0x3C (R75). -/
  | wrFrame2 (lane : BitVec 2) (data : Word32)
  /-- WR_FRAME3, 0x30 under mask 0x3C (R75). -/
  | wrFrame3 (lane : BitVec 2) (data : Word32)
  /-- WR_UNMAPPED_34, 0x34 under mask 0x3C (R42). -/
  | wrUnmapped34 (lane : BitVec 2) (data : Word32)
  /-- WR_UNMAPPED_38, 0x38 under mask 0x3C (R42). -/
  | wrUnmapped38 (lane : BitVec 2) (data : Word32)
  /-- WR_UNMAPPED_3C, 0x3C under mask 0x3C (R42). -/
  | wrUnmapped3C (lane : BitVec 2) (data : Word32)
  -- Frame bytes by position marker (format FRAME_BYTE, 30_encoding.md R59, R60): `data` is the low nibble.
  /-- FB_POS0, 0x00 under mask 0xF0 (R90). -/
  | fbPos0 (data : Nibble)
  /-- FB_POS1, 0x10 under mask 0xF0 (R92). -/
  | fbPos1 (data : Nibble)
  /-- FB_POS2, 0x20 under mask 0xF0 (R92). -/
  | fbPos2 (data : Nibble)
  /-- FB_POS3, 0x30 under mask 0xF0 (R92). -/
  | fbPos3 (data : Nibble)
  /-- FB_POS4, 0x40 under mask 0xF0 (R92). -/
  | fbPos4 (data : Nibble)
  /-- FB_POS5, 0x50 under mask 0xF0 (R92). -/
  | fbPos5 (data : Nibble)
  /-- FB_POS6, 0x60 under mask 0xF0 (R92). -/
  | fbPos6 (data : Nibble)
  /-- FB_POS7, 0x70 under mask 0xF0 (R92). -/
  | fbPos7 (data : Nibble)
  /-- FB_POS8, 0x80 under mask 0xF0 (R92). -/
  | fbPos8 (data : Nibble)
  /-- FB_POS9, 0x90 under mask 0xF0 (R92). -/
  | fbPos9 (data : Nibble)
  /-- FB_POS10, 0xA0 under mask 0xF0 (R92). -/
  | fbPos10 (data : Nibble)
  /-- FB_POS11, 0xB0 under mask 0xF0 (R92). -/
  | fbPos11 (data : Nibble)
  /-- FB_POS12, 0xC0 under mask 0xF0 (R92). -/
  | fbPos12 (data : Nibble)
  /-- FB_POS13, 0xD0 under mask 0xF0 (R92). -/
  | fbPos13 (data : Nibble)
  /-- FB_POS14, 0xE0 under mask 0xF0 (R91). -/
  | fbPos14 (data : Nibble)
  /-- FB_POS15, 0xF0 under mask 0xF0 (R90). -/
  | fbPos15 (data : Nibble)
  -- Digit pairs by lookup key (format DIGIT_PAIR, 30_encoding.md R62 to R64): `cell` is k of DigitCell(k), `hb` the high-bit indicator.
  /-- LUT_1, 0x05 under mask 0x7F (R104). -/
  | lut1 (cell : Fin 4) (hb : Bool)
  /-- LUT_2, 0x5B under mask 0x7F (R104). -/
  | lut2 (cell : Fin 4) (hb : Bool)
  /-- LUT_3, 0x1F under mask 0x7F (R104). -/
  | lut3 (cell : Fin 4) (hb : Bool)
  /-- LUT_4, 0x27 under mask 0x7F (R104). -/
  | lut4 (cell : Fin 4) (hb : Bool)
  /-- LUT_5, 0x3E under mask 0x7F (R104). -/
  | lut5 (cell : Fin 4) (hb : Bool)
  /-- LUT_6, 0x7E under mask 0x7F (R104). -/
  | lut6 (cell : Fin 4) (hb : Bool)
  /-- LUT_7, 0x15 under mask 0x7F (R104). -/
  | lut7 (cell : Fin 4) (hb : Bool)
  /-- LUT_8, 0x7F under mask 0x7F (R104). -/
  | lut8 (cell : Fin 4) (hb : Bool)
  /-- LUT_9, 0x3F under mask 0x7F (R104). -/
  | lut9 (cell : Fin 4) (hb : Bool)
  /-- LUT_0, 0x7D under mask 0x7F (R104). -/
  | lut0 (cell : Fin 4) (hb : Bool)
  /-- LUT_L, 0x68 under mask 0x7F (R104). -/
  | lutL (cell : Fin 4) (hb : Bool)
  /-- LUT_BLANK, 0x00 under mask 0x7F (R104). -/
  | lutBlank (cell : Fin 4) (hb : Bool)
  /-- LUT_X, 0x00 under mask 0x00 (R104). -/
  | lutX (cell : Fin 4) (hb : Bool) (key : BitVec 7)
  -- Flag nibbles by frame position (format FLAG_NIBBLE, 30_encoding.md R68): `data` is the low nibble.
  /-- FLAGS_POS1, 0x10 under mask 0xF0 (R108). -/
  | flagsPos1 (data : Nibble)
  /-- FLAGS_POS10, 0xA0 under mask 0xF0 (R108). -/
  | flagsPos10 (data : Nibble)
  /-- FLAGS_POS11, 0xB0 under mask 0xF0 (R108). -/
  | flagsPos11 (data : Nibble)
  /-- FLAGS_POS12, 0xC0 under mask 0xF0 (R108). -/
  | flagsPos12 (data : Nibble)
  /-- FLAGS_POS13, 0xD0 under mask 0xF0 (R108). -/
  | flagsPos13 (data : Nibble)
  /-- FLAGS_POS14, 0xE0 under mask 0xF0 (R108). -/
  | flagsPos14 (data : Nibble)
  deriving DecidableEq, Repr

end Sys2Proof
end

