-- ==== Sys2Proof/Decode.lean ====
section
/-! DEFINITION. Decoding and encoding (30_encoding.md R57 to R68, 20_memory.md R46), with the bit fields and the
digit lookup table they use. `decode` is total on every coded word and rejects by name. -/

namespace Sys2Proof

/-! ## Bit fields -/

/-- pos(b) = b[7:4], the position marker (00_scope.md R6, 30_encoding.md R59). -/
def pos (b : Byte) : Nibble := b.extractLsb' 4 4

/-- low(b) = b[3:0], the payload (00_scope.md R6, 30_encoding.md R59). -/
def low (b : Byte) : Nibble := b.extractLsb' 0 4

/-- The byte whose position marker is `p` and whose payload is `d` (30_encoding.md R59). -/
def byteOf (p d : Nibble) : Byte := (p ++ d).cast rfl

/-- The word slot, bus_addr[5:2] (20_memory.md R46). -/
def slotOf (a : Addr) : BitVec 4 := a.extractLsb' 2 4

/-- The ignored bits bus_addr[1:0] (20_memory.md R46). -/
def laneOf (a : Addr) : BitVec 2 := a.extractLsb' 0 2

/-- The byte offset of a slot with the ignored bits `lane` (20_memory.md R46). -/
def addrOf (slot : BitVec 4) (lane : BitVec 2) : Addr := (slot ++ lane).cast rfl

/-- OP, bus_wdata[1:0] of a command write (30_encoding.md R57). -/
def opOf (v : Word32) : BitVec 2 := v.extractLsb' 0 2

/-- The ignored bits bus_wdata[31:2] of a command write (30_encoding.md R57). -/
def restOf (v : Word32) : BitVec 30 := v.extractLsb' 2 30

/-- The command word with OP `op` and the ignored bits `rest` (30_encoding.md R57). -/
def cmdWordOf (rest : BitVec 30) (op : BitVec 2) : Word32 := (rest ++ op).cast rfl

/-! ## The digit lookup table -/

/-- The digit lookup table, KEY to GLYPH code, in the order of 30_encoding.md R63. Every other key is 'X'
(R64). -/
def lutTable : List (BitVec 7 × Nibble) :=
  [(0x05#7, 0x1#4), (0x5B#7, 0x2#4), (0x1F#7, 0x3#4), (0x27#7, 0x4#4), 
   (0x3E#7, 0x5#4), (0x7E#7, 0x6#4), (0x15#7, 0x7#4), (0x7F#7, 0x8#4), 
   (0x3F#7, 0x9#4), (0x7D#7, 0x0#4), (0x68#7, 0xA#4), (0x00#7, 0xB#4)]

/-! ## Decoding -/

/-- Why a coded word is no instruction. -/
inductive DecodeError where
  /-- A FLAG_NIBBLE word whose position is none of 1, 10, 11, 12, 13, 14 (30_encoding.md R68). -/
  | notAFlagPosition (position : Nibble)
  deriving DecidableEq, Repr

/-- A host read, by slot (30_encoding.md R58, 10_state.md R31). -/
def decodeRead (a : Addr) : Instr :=
  match (slotOf a).toNat with
  | 0 => .rdCmd (laneOf a)
  | 1 => .rdStatus (laneOf a)
  | 2 => .rdIrqEn (laneOf a)
  | 3 => .rdRetry (laneOf a)
  | 4 => .rdTimeout (laneOf a)
  | 5 => .rdResult (laneOf a)
  | 6 => .rdDigits (laneOf a)
  | 7 => .rdFlags (laneOf a)
  | 8 => .rdAlign (laneOf a)
  | 9 => .rdFrame0 (laneOf a)
  | 10 => .rdFrame1 (laneOf a)
  | 11 => .rdFrame2 (laneOf a)
  | 12 => .rdFrame3 (laneOf a)
  | 13 => .rdUnmapped34 (laneOf a)
  | 14 => .rdUnmapped38 (laneOf a)
  | _ => .rdUnmapped3C (laneOf a)

/-- A command write, by OP (30_encoding.md R57). -/
def decodeCommand (lane : BitVec 2) (v : Word32) : Instr :=
  match (opOf v).toNat with
  | 0 => .nop lane (restOf v)
  | 1 => .sync lane (restOf v)
  | 2 => .read lane (restOf v)
  | _ => .cmdReserved lane (restOf v)

/-- A host write, by slot (30_encoding.md R57, R58, 40_dispatch.md R75). -/
def decodeWrite (a : Addr) (v : Word32) : Instr :=
  match (slotOf a).toNat with
  | 0 => decodeCommand (laneOf a) v
  | 1 => .wrStatus (laneOf a) v
  | 2 => .wrIrqEn (laneOf a) v
  | 3 => .wrRetry (laneOf a) v
  | 4 => .wrTimeout (laneOf a) v
  | 5 => .wrResult (laneOf a) v
  | 6 => .wrDigits (laneOf a) v
  | 7 => .wrFlags (laneOf a) v
  | 8 => .wrAlign (laneOf a) v
  | 9 => .wrFrame0 (laneOf a) v
  | 10 => .wrFrame1 (laneOf a) v
  | 11 => .wrFrame2 (laneOf a) v
  | 12 => .wrFrame3 (laneOf a) v
  | 13 => .wrUnmapped34 (laneOf a) v
  | 14 => .wrUnmapped38 (laneOf a) v
  | _ => .wrUnmapped3C (laneOf a) v

/-- A frame byte, by its position marker (30_encoding.md R60). -/
def decodeFrameByte (b : Byte) : Instr :=
  match (pos b).toNat with
  | 0 => .fbPos0 (low b)
  | 1 => .fbPos1 (low b)
  | 2 => .fbPos2 (low b)
  | 3 => .fbPos3 (low b)
  | 4 => .fbPos4 (low b)
  | 5 => .fbPos5 (low b)
  | 6 => .fbPos6 (low b)
  | 7 => .fbPos7 (low b)
  | 8 => .fbPos8 (low b)
  | 9 => .fbPos9 (low b)
  | 10 => .fbPos10 (low b)
  | 11 => .fbPos11 (low b)
  | 12 => .fbPos12 (low b)
  | 13 => .fbPos13 (low b)
  | 14 => .fbPos14 (low b)
  | _ => .fbPos15 (low b)

/-- A digit pair, by its KEY (30_encoding.md R63, R64). -/
def decodePair (cell : Fin 4) (hb : Bool) (key : BitVec 7) : Instr :=
  match key.toNat with
  | 0x05 => .lut1 cell hb
  | 0x5B => .lut2 cell hb
  | 0x1F => .lut3 cell hb
  | 0x27 => .lut4 cell hb
  | 0x3E => .lut5 cell hb
  | 0x7E => .lut6 cell hb
  | 0x15 => .lut7 cell hb
  | 0x7F => .lut8 cell hb
  | 0x3F => .lut9 cell hb
  | 0x7D => .lut0 cell hb
  | 0x68 => .lutL cell hb
  | 0x00 => .lutBlank cell hb
  | _ => .lutX cell hb key

/-- A flag nibble, by its frame position (30_encoding.md R68). -/
def decodeFlag (b : Byte) : Except DecodeError Instr :=
  match (pos b).toNat with
  | 1 => .ok (.flagsPos1 (low b))
  | 10 => .ok (.flagsPos10 (low b))
  | 11 => .ok (.flagsPos11 (low b))
  | 12 => .ok (.flagsPos12 (low b))
  | 13 => .ok (.flagsPos13 (low b))
  | 14 => .ok (.flagsPos14 (low b))
  | _ => .error (.notAFlagPosition (pos b))

/-- The instruction a coded word stands for. -/
def decode : Code → Except DecodeError Instr
  | .busRead a => .ok (decodeRead a)
  | .busWrite a v => .ok (decodeWrite a v)
  | .frameByte b => .ok (decodeFrameByte b)
  | .digitPair cell hb key => .ok (decodePair cell hb key)
  | .flagNibble b => decodeFlag b

/-! ## Encoding -/

/-- The coded word of an instruction, from the same encodings of the spec (30_encoding.md R57 to R68). -/
def encode : Instr → Code
  | .rdCmd lane => .busRead (addrOf 0#4 lane)
  | .rdStatus lane => .busRead (addrOf 1#4 lane)
  | .rdIrqEn lane => .busRead (addrOf 2#4 lane)
  | .rdRetry lane => .busRead (addrOf 3#4 lane)
  | .rdTimeout lane => .busRead (addrOf 4#4 lane)
  | .rdResult lane => .busRead (addrOf 5#4 lane)
  | .rdDigits lane => .busRead (addrOf 6#4 lane)
  | .rdFlags lane => .busRead (addrOf 7#4 lane)
  | .rdAlign lane => .busRead (addrOf 8#4 lane)
  | .rdFrame0 lane => .busRead (addrOf 9#4 lane)
  | .rdFrame1 lane => .busRead (addrOf 10#4 lane)
  | .rdFrame2 lane => .busRead (addrOf 11#4 lane)
  | .rdFrame3 lane => .busRead (addrOf 12#4 lane)
  | .rdUnmapped34 lane => .busRead (addrOf 13#4 lane)
  | .rdUnmapped38 lane => .busRead (addrOf 14#4 lane)
  | .rdUnmapped3C lane => .busRead (addrOf 15#4 lane)
  | .nop lane rest => .busWrite (addrOf 0#4 lane) (cmdWordOf rest 0#2)
  | .sync lane rest => .busWrite (addrOf 0#4 lane) (cmdWordOf rest 1#2)
  | .read lane rest => .busWrite (addrOf 0#4 lane) (cmdWordOf rest 2#2)
  | .cmdReserved lane rest => .busWrite (addrOf 0#4 lane) (cmdWordOf rest 3#2)
  | .wrStatus lane data => .busWrite (addrOf 1#4 lane) data
  | .wrIrqEn lane data => .busWrite (addrOf 2#4 lane) data
  | .wrRetry lane data => .busWrite (addrOf 3#4 lane) data
  | .wrTimeout lane data => .busWrite (addrOf 4#4 lane) data
  | .wrResult lane data => .busWrite (addrOf 5#4 lane) data
  | .wrDigits lane data => .busWrite (addrOf 6#4 lane) data
  | .wrFlags lane data => .busWrite (addrOf 7#4 lane) data
  | .wrAlign lane data => .busWrite (addrOf 8#4 lane) data
  | .wrFrame0 lane data => .busWrite (addrOf 9#4 lane) data
  | .wrFrame1 lane data => .busWrite (addrOf 10#4 lane) data
  | .wrFrame2 lane data => .busWrite (addrOf 11#4 lane) data
  | .wrFrame3 lane data => .busWrite (addrOf 12#4 lane) data
  | .wrUnmapped34 lane data => .busWrite (addrOf 13#4 lane) data
  | .wrUnmapped38 lane data => .busWrite (addrOf 14#4 lane) data
  | .wrUnmapped3C lane data => .busWrite (addrOf 15#4 lane) data
  | .fbPos0 data => .frameByte (byteOf 0#4 data)
  | .fbPos1 data => .frameByte (byteOf 1#4 data)
  | .fbPos2 data => .frameByte (byteOf 2#4 data)
  | .fbPos3 data => .frameByte (byteOf 3#4 data)
  | .fbPos4 data => .frameByte (byteOf 4#4 data)
  | .fbPos5 data => .frameByte (byteOf 5#4 data)
  | .fbPos6 data => .frameByte (byteOf 6#4 data)
  | .fbPos7 data => .frameByte (byteOf 7#4 data)
  | .fbPos8 data => .frameByte (byteOf 8#4 data)
  | .fbPos9 data => .frameByte (byteOf 9#4 data)
  | .fbPos10 data => .frameByte (byteOf 10#4 data)
  | .fbPos11 data => .frameByte (byteOf 11#4 data)
  | .fbPos12 data => .frameByte (byteOf 12#4 data)
  | .fbPos13 data => .frameByte (byteOf 13#4 data)
  | .fbPos14 data => .frameByte (byteOf 14#4 data)
  | .fbPos15 data => .frameByte (byteOf 15#4 data)
  | .lut1 cell hb => .digitPair cell hb 0x05#7
  | .lut2 cell hb => .digitPair cell hb 0x5B#7
  | .lut3 cell hb => .digitPair cell hb 0x1F#7
  | .lut4 cell hb => .digitPair cell hb 0x27#7
  | .lut5 cell hb => .digitPair cell hb 0x3E#7
  | .lut6 cell hb => .digitPair cell hb 0x7E#7
  | .lut7 cell hb => .digitPair cell hb 0x15#7
  | .lut8 cell hb => .digitPair cell hb 0x7F#7
  | .lut9 cell hb => .digitPair cell hb 0x3F#7
  | .lut0 cell hb => .digitPair cell hb 0x7D#7
  | .lutL cell hb => .digitPair cell hb 0x68#7
  | .lutBlank cell hb => .digitPair cell hb 0x00#7
  | .lutX cell hb key => .digitPair cell hb key
  | .flagsPos1 data => .flagNibble (byteOf 1#4 data)
  | .flagsPos10 data => .flagNibble (byteOf 10#4 data)
  | .flagsPos11 data => .flagNibble (byteOf 11#4 data)
  | .flagsPos12 data => .flagNibble (byteOf 12#4 data)
  | .flagsPos13 data => .flagNibble (byteOf 13#4 data)
  | .flagsPos14 data => .flagNibble (byteOf 14#4 data)

/-! ## The opcode table's own numbering of bits -/

/-- The coded word that a word of spec/opcode_table.json stands for. The table gives no bits for the format, for
the direction of a bus access or for the decoder a word reaches, so one word can stand for rows of several
formats, and each word is given one of them here (DESIGN CHOICE, log 10). More than 8 bits: a command word. 8 bits or
fewer: a read at an aligned offset below 0x40; a command word for 1, 2, 3; a listed lookup key; else a frame byte. -/
def tableCode (nbits w : Nat) : Option Code :=
  if nbits > 32 then none
  else if nbits > 8 then some (.busWrite 0#6 (BitVec.ofNat 32 w))
  else if w ≥ 256 then none
  else if w < 64 ∧ w % 4 = 0 then some (.busRead (BitVec.ofNat 6 w))
  else if w < 4 then some (.busWrite 0#6 (BitVec.ofNat 32 w))
  else if lutTable.any (fun row => row.1.toNat == w) then some (.digitPair 0 false (BitVec.ofNat 7 w))
  else some (.frameByte (BitVec.ofNat 8 w))

/-- What `decode` reads from a word numbered as spec/opcode_table.json numbers its bits (log 10). -/
def decodeTableWord (nbits w : Nat) : Option Instr :=
  match tableCode nbits w with
  | some c => (decode c).toOption
  | none => none

end Sys2Proof
end

