-- ==== Sys2Proof/Config.lean ====
section
/-! DEFINITION. The parameters of a build (00_scope.md R5) and the two values the spec leaves open: the clock
frequency and the pins of a cycle that nothing has placed. -/

namespace Sys2Proof

/-- The parameters of one build of FSYNC (00_scope.md R5). They stand in the state as data that no step
changes, which is how the model takes them as arguments (log 4). -/
structure Build where
  /-- FIFO_DEPTH, legal 1..255 (R5, D8). -/
  fifoDepth : Nat
  /-- F_CLK_HZ, the clock frequency in Hz, a positive integer (R5, D1). -/
  fClkHz : Nat
  deriving DecidableEq, Repr

/-- The legal builds: FIFO_DEPTH in 1..255 and F_CLK_HZ positive (00_scope.md R5). -/
abbrev Build.wf (b : Build) : Prop := (1 ≤ b.fifoDepth ∧ b.fifoDepth ≤ 255) ∧ 1 ≤ b.fClkHz

/-- DESIGN CHOICE (log 4): F_CLK_HZ - 1, uninterpreted. R5 leaves F_CLK_HZ OPEN and says it is positive. -/
opaque Config.fClkHzLessOne : Nat

/-- F_CLK_HZ of the build that `State.reset` stands for: open and positive (00_scope.md R5; log 4). -/
def Config.fClkHz : Nat := Config.fClkHzLessOne + 1

/-- The build of `State.reset`: FIFO_DEPTH 16, "the reset build of this spec" (00_scope.md R5), and the open
clock frequency. -/
def Config.build : Build := { fifoDepth := 16, fClkHz := Config.fClkHz }

/-- DESIGN CHOICE (log 3): the pins of a cycle for which nothing has been placed, one free draw for each value
of the counter. The spec: "a model treats its rx inputs of each cycle as a draw" (10_state.md R9). -/
opaque Config.freePins : Nat → Pins

end Sys2Proof
end

