-- ==== Sys2Proof/Machine/ResetValues.lean ====
section
/-! DEFINITION. The reset values that are computed: TIMEOUT_RESET (70_reset_and_hazards.md R154) and the all-zero
FRAME (R150). -/

namespace Sys2Proof.Machine

/-- TIMEOUT_RESET = min(round(3.0 x F_CLK_HZ), 2^32 - 1) (70_reset_and_hazards.md R154). F_CLK_HZ is an integer,
so the product is exact and rounding changes nothing. -/
def timeoutReset (fClkHz : Nat) : Word32 := BitVec.ofNat 32 (min (3 * fClkHz) (2 ^ 32 - 1))

/-- FRAME with all fourteen bytes 0x00 (10_state.md R27). -/
def frameZero : Frame := Vector.replicate 14 0#8

/-- RETRY_LIMIT after reset (10_state.md R16). -/
def retryReset : Nibble := 3#4

end Sys2Proof.Machine
end

