-- ==== Sys2Proof/Machine/State.lean ====
section
/-! DEFINITION. The state of FSYNC as plain data: the complete list of 10_state.md R15, and after it the model's own
fields (the build, the pins to come, the draw counter, the output nets). Faults, refusals and reset. -/

namespace Sys2Proof.Machine

/-- PHASE (10_state.md R25). -/
inductive Phase where
  /-- No command runs (code 0). -/
  | idle
  /-- Reading the one marker byte of a synchronization (code 1). -/
  | mark
  /-- Discarding the rest of a frame (code 2). -/
  | disc
  /-- Capturing a frame (code 3). -/
  | cap
  deriving DecidableEq, Repr

/-- CTX (10_state.md R25): which command runs, or ran last. -/
inductive Ctx where
  /-- SYNC (code 0). -/
  | sync
  /-- READ (code 1): a MARK or DISC phase is a resynchronization. -/
  | read
  deriving DecidableEq, Repr

/-- ERR, the outcome of the last completed command (10_state.md R21, 60_exceptions.md R131). -/
inductive Err where
  /-- Success (code 0). -/
  | none
  /-- A MARK phase timed out with no byte (code 1). -/
  | noData
  /-- A MARK byte with marker 0 or 15 (code 2). -/
  | invalidMarker
  /-- All attempts of a READ failed (code 3). -/
  | readFailure
  deriving DecidableEq, Repr

/-- What the output nets carried in the cycle just run. The model's own record (log 6): the spec keeps none of
it from one cycle to the next (10_state.md R15). -/
structure Outputs where
  /-- bus_rdata (10_state.md R13, 20_memory.md R44). -/
  rdata : Word32
  /-- The digit-cell bytes of cells 0 to 3 (42_frame_decode.md R105). -/
  cells : Vector Byte 4
  /-- The FLAGS word of the flag multiplexer (42_frame_decode.md R109). -/
  flags : Word32
  deriving DecidableEq, Repr

/-- The state of FSYNC. -/
structure State where
  /-- RETRY_LIMIT (10_state.md R16). -/
  retryLimit : Nibble
  /-- TIMEOUT, in clk cycles (R17). -/
  timeout : Word32
  /-- DONE_IE (R18). -/
  doneIe : Bool
  /-- BUSY (R19). -/
  busy : Bool
  /-- DONE (R20). -/
  done : Bool
  /-- ERR (R21). -/
  err : Err
  /-- VALID (R22). -/
  valid : Bool
  /-- IGN (R23). -/
  ign : Bool
  /-- OVR (R24). -/
  ovr : Bool
  /-- PHASE (R25). -/
  phase : Phase
  /-- CTX (R25). -/
  ctx : Ctx
  /-- NEED, the bytes the current phase must consume (R25). -/
  need : Nibble
  /-- CNT, the bytes consumed so far in the current phase (R25). -/
  cnt : Nibble
  /-- TMR, the clock cycles elapsed in the current phase (R25, 60_exceptions.md R144). -/
  tmr : Word32
  /-- The RX FIFO, head first (R26). LEVEL is its length. -/
  fifo : List Byte
  /-- FRAME[0..13] (R27). -/
  frame : Frame
  /-- ATTEMPT (R28). -/
  attempt : Nibble
  /-- RXCNT (R29). -/
  rxcnt : Nibble
  /-- MARKER (R30). -/
  marker : Nibble
  /-- The parameters of the build; no step changes them (log 4). -/
  build : Build
  /-- The pins of the coming cycles, the next cycle's first (log 2). -/
  inputs : List Pins
  /-- How many cycles have taken their pins as a free draw (log 3). -/
  draws : Nat
  /-- The output nets of the cycle just run (log 6). -/
  out : Outputs
  deriving DecidableEq, Repr

/-- FSYNC has no fault: "FSYNC raises no synchronous exception and takes no trap" (60_exceptions.md R128). Its
errors are completion codes. So no constructor: nothing in the model raises one. -/
inductive Fault
  deriving DecidableEq, Repr

/-- Why a step or an instruction has no meaning. -/
inductive Refusal where
  /-- Raised by an arm of `exec` for an instruction that has no meaning yet. No arm raises it: safe. -/
  | notModelled (mnemonic : String)
  /-- Raised by `runCode` for a coded word that decodes to no instruction (a flag word at a position that
  carries no flags). No cycle forms such a word: safe. -/
  | undecodable (e : DecodeError)
  deriving DecidableEq, Repr

/-- The output nets as `State.reset` shows them: no read, the DIGITS and FLAGS views of the all-zero FRAME
(10_state.md R38, R39; log 6). -/
def Outputs.reset : Outputs :=
  { rdata := 0#32, cells := Vector.replicate 4 0x0B#8, flags := 0#32 }

/-- RESET_STATE of a build (70_reset_and_hazards.md R150). -/
def State.resetOf (b : Build) : State :=
  { retryLimit := retryReset, timeout := timeoutReset b.fClkHz, doneIe := false,
    busy := false, done := false, err := .none, valid := false, ign := false, ovr := false,
    phase := .idle, ctx := .sync, need := 0#4, cnt := 0#4, tmr := 0#32,
    fifo := [], frame := frameZero, attempt := 0#4, rxcnt := 0#4, marker := 0#4,
    build := b, inputs := [], draws := 0, out := Outputs.reset }

/-- The machine right after reset (70_reset_and_hazards.md R150): nothing placed, the build of
`Config.build`. -/
def State.reset : State := State.resetOf Config.build

end Sys2Proof.Machine
end

