-- ==== Sys2Proof/Machine/Operands.lean ====
section
/-! DEFINITION. The operand forms: the fields a host write takes from bus_wdata (10_state.md R33 to R36, 40_dispatch.md
R75), the coded words that FRAME and the pins form, and the codes of the state's named values (R21, R25). -/

namespace Sys2Proof.Machine

/-! ## Write data -/

/-- clrDONE = bus_wdata[1] of a STATUS write (10_state.md R33). -/
def clrDoneOf (v : Word32) : Bool := v.getLsbD 1

/-- clrIGN = bus_wdata[5] of a STATUS write (10_state.md R33). -/
def clrIgnOf (v : Word32) : Bool := v.getLsbD 5

/-- clrOVR = bus_wdata[6] of a STATUS write (10_state.md R33). -/
def clrOvrOf (v : Word32) : Bool := v.getLsbD 6

/-- DONE_IE = bus_wdata[0] of an IRQ_EN write (10_state.md R34). -/
def doneIeOf (v : Word32) : Bool := v.getLsbD 0

/-- RETRY_LIMIT = bus_wdata[3:0] of a RETRY write (10_state.md R35). -/
def retryLimitOf (v : Word32) : Nibble := v.extractLsb' 0 4

/-! ## Codes of named values -/

/-- The code of PHASE in STATUS[17:16] (10_state.md R25, R33). -/
def Phase.code : Phase → BitVec 2
  | .idle => 0#2
  | .mark => 1#2
  | .disc => 2#2
  | .cap => 3#2

/-- The code of CTX in STATUS[18] (10_state.md R25, R33). -/
def Ctx.bit : Ctx → BitVec 1
  | .sync => 0#1
  | .read => 1#1

/-- The code of ERR in STATUS[3:2] (10_state.md R21, R33). -/
def Err.code : Err → BitVec 2
  | .none => 0#2
  | .noData => 1#2
  | .invalidMarker => 2#2
  | .readFailure => 3#2

/-! ## Coded words -/

/-- The host access of a cycle, if there is one. With bus_wr and bus_rd both 1 the access is a write
(10_state.md R13). -/
def busCode (p : Pins) : Option Code :=
  if p.busWr then some (.busWrite p.busAddr p.busWdata)
  else if p.busRd then some (.busRead p.busAddr)
  else none

/-- The FLAG_NIBBLE word of FRAME[i]: its 1-based position and its DATA nibble (30_encoding.md R68). The byte's
own high nibble plays no part (log 8). -/
def flagCode (f : Frame) (i : Fin 14) : Code :=
  .flagNibble (byteOf (BitVec.ofNat 4 (i.val + 1)) (low f[i]))

/-- sat32(v + 1) = min(v + 1, 2^32 - 1) (00_scope.md R7). -/
def satIncr (v : Word32) : Word32 := if v = 0xFFFFFFFF#32 then v else v + 1#32

end Sys2Proof.Machine
end

