-- ==== Sys2Proof/Machine/View.lean ====
section
/-! DEFINITION. The frame decode (42_frame_decode.md): alignment check, digit lookup, flag vectors. Total functions
of FRAME with no other input (R98). -/

namespace Sys2Proof.Machine

/-! ## Alignment check -/

/-- MarkerOf(i) (42_frame_decode.md R100). -/
def markerOf (f : Frame) (i : Fin 14) : Nibble := pos f[i]

/-- MATCH[i]: the marker of FRAME[i] is i + 1 (42_frame_decode.md R101, R102). -/
def matchBit (f : Frame) (i : Fin 14) : Bool := markerOf f i == BitVec.ofNat 4 (i.val + 1)

/-- MATCH[13:0] (10_state.md R40). -/
def matchBits (f : Frame) : BitVec 14 :=
  (BitVec.ofBool (matchBit f 13) ++ BitVec.ofBool (matchBit f 12) ++ BitVec.ofBool (matchBit f 11) ++
   BitVec.ofBool (matchBit f 10) ++ BitVec.ofBool (matchBit f 9) ++ BitVec.ofBool (matchBit f 8) ++
   BitVec.ofBool (matchBit f 7) ++ BitVec.ofBool (matchBit f 6) ++ BitVec.ofBool (matchBit f 5) ++
   BitVec.ofBool (matchBit f 4) ++ BitVec.ofBool (matchBit f 3) ++ BitVec.ofBool (matchBit f 2) ++
   BitVec.ofBool (matchBit f 1) ++ BitVec.ofBool (matchBit f 0)).cast rfl

/-- ALIGNED = MATCH[0] AND ... AND MATCH[13] (42_frame_decode.md R103). -/
def aligned (f : Frame) : Bool :=
  matchBit f 0 && matchBit f 1 && matchBit f 2 && matchBit f 3 && matchBit f 4 && matchBit f 5 &&
  matchBit f 6 && matchBit f 7 && matchBit f 8 && matchBit f 9 && matchBit f 10 && matchBit f 11 &&
  matchBit f 12 && matchBit f 13

/-- The ALIGN view: MATCH in bits [13:0], ALIGNED in bit 16 (10_state.md R40). -/
def alignWord (f : Frame) : Word32 :=
  (0#15 ++ BitVec.ofBool (aligned f) ++ 0#2 ++ matchBits f).cast rfl

/-! ## Digit lookup -/

/-- Lut(KEY) (42_frame_decode.md R104): the table's GLYPH code, 0xF for a key it does not list. -/
def lut (key : BitVec 7) : Nibble := (lutTable.lookup key).getD 0xF#4

/-- The digit-cell code {000, HB, GLYPH} (30_encoding.md R67). -/
def cellCode (hb : Bool) (glyph : Nibble) : Byte := (0#3 ++ BitVec.ofBool hb ++ glyph).cast rfl

/-- Byte A of digit cell k, FRAME[2k+1] (30_encoding.md R62). -/
def byteA (f : Frame) (k : Fin 4) : Byte := f[2 * k.val + 1]

/-- Byte B of digit cell k, FRAME[2k+2] (30_encoding.md R62). -/
def byteB (f : Frame) (k : Fin 4) : Byte := f[2 * k.val + 2]

/-- HB = A[3] (30_encoding.md R62). -/
def hbOf (f : Frame) (k : Fin 4) : Bool := (byteA f k).getLsbD 3

/-- KEY = {REM, SEG} = {A[2:0], B[3:0]} (30_encoding.md R62). -/
def keyOf (f : Frame) (k : Fin 4) : BitVec 7 :=
  ((byteA f k).extractLsb' 0 3 ++ (byteB f k).extractLsb' 0 4).cast rfl

/-- DigitCell(k) (42_frame_decode.md R105). -/
def digitCell (f : Frame) (k : Fin 4) : Byte := cellCode (hbOf f k) (lut (keyOf f k))

/-- The DIGITS view (42_frame_decode.md R106). -/
def digitsWord (f : Frame) : Word32 :=
  (digitCell f 3 ++ digitCell f 2 ++ digitCell f 1 ++ digitCell f 0).cast rfl

/-! ## Flag multiplexer -/

/-- FRAME[i][j] as one bit (42_frame_decode.md R108). -/
def frameBit (f : Frame) (i : Fin 14) (j : Nat) : BitVec 1 := BitVec.ofBool (f[i].getLsbD j)

/-- FLAG[6:0]: Hold, REL-delta, beep, RS232, AUTO, DC, AC (42_frame_decode.md R108). -/
def flagVec (f : Frame) : BitVec 7 :=
  (frameBit f 11 0 ++ frameBit f 11 1 ++ frameBit f 10 0 ++
   frameBit f 0 0 ++ frameBit f 0 1 ++ frameBit f 0 2 ++ frameBit f 0 3).cast rfl

/-- SCALE[4:0]: mega, kilo, milli, micro, nano (42_frame_decode.md R108). -/
def scaleVec (f : Frame) : BitVec 5 :=
  (frameBit f 10 1 ++ frameBit f 9 1 ++ frameBit f 10 3 ++ frameBit f 9 3 ++ frameBit f 9 2).cast rfl

/-- MEAS[7:0]: Celsius, diode, %, Hertz, volts, Amps, Ohms, Farads (42_frame_decode.md R108). -/
def measVec (f : Frame) : BitVec 8 :=
  (frameBit f 13 2 ++ frameBit f 9 0 ++ frameBit f 10 2 ++ frameBit f 12 1 ++
   frameBit f 12 2 ++ frameBit f 12 3 ++ frameBit f 11 2 ++ frameBit f 11 3).cast rfl

/-- RSVD[3:0]: other-14-1, other-14-2, other-14-4, other-13-1 (42_frame_decode.md R108). -/
def rsvdVec (f : Frame) : BitVec 4 :=
  (frameBit f 13 0 ++ frameBit f 13 1 ++ frameBit f 13 3 ++ frameBit f 12 0).cast rfl

/-- The FLAGS view {0000, RSVD, MEAS, 000, SCALE, 0, FLAG} (42_frame_decode.md R109). -/
def flagsWord (f : Frame) : Word32 :=
  (0#4 ++ rsvdVec f ++ measVec f ++ 0#3 ++ scaleVec f ++ 0#1 ++ flagVec f).cast rfl

end Sys2Proof.Machine
end

