-- ==== Sys2Proof/Machine/Flags.lean ====
section
/-! DEFINITION. The status flags: the STATUS word, the sticky bits and their write-one-to-clear (10_state.md R20, R23,
R24, R33), the interrupt output (R14), and the bits of the FLAGS word that one flag nibble drives
(30_encoding.md R70). -/

namespace Sys2Proof.Machine

/-- LEVEL, the FIFO occupancy (10_state.md R26, R33). -/
def levelOf (s : State) : BitVec 8 := BitVec.ofNat 8 s.fifo.length

/-- The STATUS word (10_state.md R33). -/
def statusWord (s : State) : Word32 :=
  (0#13 ++ s.ctx.bit ++ s.phase.code ++ levelOf s ++ 0#1 ++ BitVec.ofBool s.ovr ++ BitVec.ofBool s.ign ++
   BitVec.ofBool s.valid ++ s.err.code ++ BitVec.ofBool s.done ++ BitVec.ofBool s.busy).cast rfl

/-- The interrupt output irq = DONE_IE AND DONE (10_state.md R14, 60_exceptions.md R136). -/
def State.irq (s : State) : Bool := s.doneIe && s.done

/-- An ignored host write sets IGN (40_dispatch.md R78, R86). -/
def setIgn (s : State) : State := { s with ign := true }

/-- A dropped byte sets OVR (20_memory.md R53). -/
def setOvr (s : State) : State := { s with ovr := true }

/-- Write-one-to-clear of DONE, IGN and OVR (10_state.md R33). -/
def clearSticky (clrDone clrIgn clrOvr : Bool) (s : State) : State :=
  { s with done := s.done && !clrDone, ign := s.ign && !clrIgn, ovr := s.ovr && !clrOvr }

/-- Bit `n` of `w` set to `v`. -/
def putBit (n : Nat) (v : Bool) (w : Word32) : Word32 :=
  if v then w ||| (1#32 <<< n) else w &&& ~~~(1#32 <<< n)

/-- The DATA nibble `d` of one flag position drives FLAGS bits `n3`, `n2`, `n1`, `n0` from its bits 3, 2, 1, 0
(30_encoding.md R68, R70). -/
def driveFlags (n3 n2 n1 n0 : Nat) (d : Nibble) (s : State) : State :=
  { s with out := { s.out with
      flags := putBit n3 (d.getLsbD 3) (putBit n2 (d.getLsbD 2) (putBit n1 (d.getLsbD 1)
        (putBit n0 (d.getLsbD 0) s.out.flags))) } }

end Sys2Proof.Machine
end

