-- ==== Sys2Proof/Machine/Ops.lean ====
section
/-! DEFINITION. The named operations the meanings share: register words and bus_rdata, the phase engine (40_dispatch.md
R79 to R82), completion (R80, FSYNC's counterpart of taking an exception, 60_exceptions.md R140), the FIFO
(20_memory.md R53), synchronization (41_sync.md) and the read loop (43_read.md). -/

namespace Sys2Proof.Machine

/-- What one instruction or one step answers. -/
abbrev Result := Host.Outcome State Fault Refusal

/-- Go on with `f` from a next state; a fault or a refusal stands. -/
def andThen (o : Result) (f : State → Result) : Result :=
  match o with
  | .next s => f s
  | .fault r => .fault r
  | .refused r => .refused r

/-! ## Reading registers -/

/-- Drive bus_rdata (20_memory.md R44). Nothing else changes (R48). -/
def driveRead (w : Word32) (s : State) : State := { s with out := { s.out with rdata := w } }

/-- The IRQ_EN word (10_state.md R34). -/
def irqEnWord (s : State) : Word32 := (0#31 ++ BitVec.ofBool s.doneIe).cast rfl

/-- The RETRY word (10_state.md R35). -/
def retryWord (s : State) : Word32 := (0#28 ++ s.retryLimit).cast rfl

/-- The RESULT word (10_state.md R37). -/
def resultWord (s : State) : Word32 := (0#12 ++ s.marker ++ 0#4 ++ s.rxcnt ++ 0#4 ++ s.attempt).cast rfl

/-- FRAME0 (10_state.md R41). -/
def frame0Word (f : Frame) : Word32 := (f[3] ++ f[2] ++ f[1] ++ f[0]).cast rfl

/-- FRAME1 (10_state.md R41). -/
def frame1Word (f : Frame) : Word32 := (f[7] ++ f[6] ++ f[5] ++ f[4]).cast rfl

/-- FRAME2 (10_state.md R41). -/
def frame2Word (f : Frame) : Word32 := (f[11] ++ f[10] ++ f[9] ++ f[8]).cast rfl

/-- FRAME3 (10_state.md R41). -/
def frame3Word (f : Frame) : Word32 := (0#16 ++ f[13] ++ f[12]).cast rfl

/-! ## Decode nets -/

/-- Digit cell `k` shows the glyph `g` with the high-bit indicator `hb` (30_encoding.md R67). -/
def driveCell (k : Fin 4) (hb : Bool) (g : Nibble) (s : State) : State :=
  { s with out := { s.out with cells := s.out.cells.set k (cellCode hb g) } }

/-- At the start of a cycle bus_rdata is 0 until a read drives it (20_memory.md R44), and the FLAGS bits that no
flag drives are 0 (42_frame_decode.md R110). -/
def clearNets (s : State) : State := { s with out := { s.out with rdata := 0#32, flags := 0#32 } }

/-! ## Phases and completion -/

/-- BeginPhase(ph, n) (40_dispatch.md R79). -/
def beginPhase (ph : Phase) (n : Nibble) (s : State) : State :=
  { s with phase := ph, need := n, cnt := 0#4, tmr := 0#32 }

/-- Complete(err) (40_dispatch.md R80): the end of a command, "entry" in the sense of 60_exceptions.md R140.
Nothing is saved, no mode changes. -/
def complete (e : Err) (s : State) : State :=
  { s with phase := .idle, need := 0#4, cnt := 0#4, tmr := 0#32, busy := false, done := true, err := e }

/-- A cycle that leaves the phase running counts in TMR: "if moved = 0: s'.TMR <- sat32(s.TMR + 1)"
(40_dispatch.md R81). -/
def tick (s : State) : State := { s with tmr := satIncr s.tmr }

/-! ## The byte source -/

/-- The FIFO push of a cycle, after the sequencer's pop (20_memory.md R53). -/
def push (p : Pins) (s : State) : State :=
  if p.rxValid then
    if s.fifo.length < s.build.fifoDepth then { s with fifo := s.fifo ++ [p.rxData] } else setOvr s
  else s

/-! ## The read loop -/

/-- NextAttempt() (43_read.md R117). -/
def nextAttempt (s : State) : State :=
  if s.attempt < s.retryLimit then
    beginPhase .cap 14#4 { s with attempt := s.attempt + 1#4, frame := frameZero, rxcnt := 0#4 }
  else complete .readFailure s

/-- Resync() (43_read.md R123). -/
def resync (s : State) : State := beginPhase .mark 1#4 s

/-- Success() (43_read.md R121). -/
def success (s : State) : State := complete .none { s with valid := true }

/-- CaptureDone() on the FRAME that includes this cycle's byte (43_read.md R120). -/
def captureDone (s : State) : State := if aligned s.frame then success s else resync s

/-- FRAME[CNT] <- b (43_read.md R119). CNT is at most 13 in a CAP phase (10_state.md R25; log 15). -/
def storeByte (b : Byte) (s : State) : State :=
  { s with frame := s.frame.setIfInBounds s.cnt.toNat b, rxcnt := s.cnt + 1#4 }

/-- PhaseByte(CAP, b) (43_read.md R119). -/
def capByte (b : Byte) (s : State) : State :=
  if s.cnt.toNat + 1 = 14 then captureDone (storeByte b s)
  else tick { storeByte b s with cnt := s.cnt + 1#4 }

/-! ## Synchronization -/

/-- SyncDone() (41_sync.md R95). -/
def syncDone (s : State) : State :=
  match s.ctx with
  | .sync => complete .none s
  | .read => nextAttempt s

/-- PhaseByte(MARK, b) with an invalid marker `p` = 0 or 15 (41_sync.md R90). -/
def markInvalid (p : Nibble) (s : State) : State := complete .invalidMarker { s with marker := p }

/-- PhaseByte(MARK, b) at position 14 (41_sync.md R91). -/
def markLast (s : State) : State := syncDone { s with marker := 14#4 }

/-- PhaseByte(MARK, b) at position `p` in 1..13 (41_sync.md R92). -/
def markDiscard (p : Nibble) (s : State) : State := beginPhase .disc (14#4 - p) { s with marker := p }

/-- PhaseByte(DISC, b): the byte is discarded unexamined (41_sync.md R93). -/
def discByte (s : State) : State :=
  if s.cnt.toNat + 1 = s.need.toNat then syncDone s else tick { s with cnt := s.cnt + 1#4 }

/-- PhaseByte(PHASE, b) for a byte whose class acts as `onMark` in a MARK phase (40_dispatch.md R83). The byte has
been popped. IDLE has no PhaseByte. -/
def phaseByte (onMark : State → State) (b : Byte) (s : State) : State :=
  match s.phase with
  | .idle => s
  | .mark => onMark s
  | .disc => discByte s
  | .cap => capByte b s

/-- PhaseTimeout(PHASE) (40_dispatch.md R83): MARK R89, DISC R94, CAP R122. IDLE has none. -/
def phaseTimeout (s : State) : State :=
  match s.phase with
  | .idle => s
  | .mark => complete .noData s
  | .disc => syncDone s
  | .cap => resync s

/-- A cycle of a phase that finds the FIFO empty: the timeout, or one more cycle in TMR (40_dispatch.md R81,
R82). -/
def emptyCycle (s : State) : State := if s.timeout ≤ s.tmr then phaseTimeout s else tick s

/-! ## Commands -/

/-- The part of acceptance that SYNC and READ share (40_dispatch.md R77). -/
def accept (s : State) : State := { s with busy := true, done := false, err := .none }

/-- StartSync() (41_sync.md R88). -/
def startSync (s : State) : State := beginPhase .mark 1#4 { s with ctx := .sync }

/-- StartRead() (43_read.md R116). -/
def startRead (s : State) : State :=
  nextAttempt { s with ctx := .read, valid := false, attempt := 0#4 }

/-- A busy-guarded write: ignored with IGN while BUSY = 1, else `f` (40_dispatch.md R75, R78). -/
def busyGuarded (f : State → State) (s : State) : State := if s.busy then setIgn s else f s

end Sys2Proof.Machine
end

