-- ==== Sys2Proof/Machine/BusRead.lean ====
section
/-! DEFINITION. The sixteen host reads (20_memory.md R44, R46, R48): bus_rdata carries the register's word of the state at
the start of the cycle, and nothing else changes. -/

namespace Sys2Proof.Machine

/-- RD_CMD: CMD reads 0x00000000 (10_state.md R32). -/
def execRdCmd (_lane : BitVec 2) (s : State) : Result := .next (driveRead 0#32 s)

/-- RD_STATUS: STATUS (10_state.md R33). -/
def execRdStatus (_lane : BitVec 2) (s : State) : Result := .next (driveRead (statusWord s) s)

/-- RD_IRQ_EN: IRQ_EN (10_state.md R34). -/
def execRdIrqEn (_lane : BitVec 2) (s : State) : Result := .next (driveRead (irqEnWord s) s)

/-- RD_RETRY: RETRY (10_state.md R35). -/
def execRdRetry (_lane : BitVec 2) (s : State) : Result := .next (driveRead (retryWord s) s)

/-- RD_TIMEOUT: TIMEOUT (10_state.md R36). -/
def execRdTimeout (_lane : BitVec 2) (s : State) : Result := .next (driveRead s.timeout s)

/-- RD_RESULT: RESULT (10_state.md R37). -/
def execRdResult (_lane : BitVec 2) (s : State) : Result := .next (driveRead (resultWord s) s)

/-- RD_DIGITS: DIGITS, the view of FRAME (10_state.md R38, 42_frame_decode.md R106). -/
def execRdDigits (_lane : BitVec 2) (s : State) : Result := .next (driveRead (digitsWord s.frame) s)

/-- RD_FLAGS: FLAGS, the view of FRAME (10_state.md R39, 42_frame_decode.md R109). -/
def execRdFlags (_lane : BitVec 2) (s : State) : Result := .next (driveRead (flagsWord s.frame) s)

/-- RD_ALIGN: ALIGN, the view of FRAME (10_state.md R40). -/
def execRdAlign (_lane : BitVec 2) (s : State) : Result := .next (driveRead (alignWord s.frame) s)

/-- RD_FRAME0: FRAME0 (10_state.md R41). -/
def execRdFrame0 (_lane : BitVec 2) (s : State) : Result := .next (driveRead (frame0Word s.frame) s)

/-- RD_FRAME1: FRAME1 (10_state.md R41). -/
def execRdFrame1 (_lane : BitVec 2) (s : State) : Result := .next (driveRead (frame1Word s.frame) s)

/-- RD_FRAME2: FRAME2 (10_state.md R41). -/
def execRdFrame2 (_lane : BitVec 2) (s : State) : Result := .next (driveRead (frame2Word s.frame) s)

/-- RD_FRAME3: FRAME3 (10_state.md R41). -/
def execRdFrame3 (_lane : BitVec 2) (s : State) : Result := .next (driveRead (frame3Word s.frame) s)

/-- RD_UNMAPPED_34: offset 0x34 maps no register and reads 0x00000000 (10_state.md R42). -/
def execRdUnmapped34 (_lane : BitVec 2) (s : State) : Result := .next (driveRead 0#32 s)

/-- RD_UNMAPPED_38: offset 0x38 maps no register and reads 0x00000000 (10_state.md R42). -/
def execRdUnmapped38 (_lane : BitVec 2) (s : State) : Result := .next (driveRead 0#32 s)

/-- RD_UNMAPPED_3C: offset 0x3C maps no register and reads 0x00000000 (10_state.md R42). -/
def execRdUnmapped3C (_lane : BitVec 2) (s : State) : Result := .next (driveRead 0#32 s)


end Sys2Proof.Machine
end

