-- ==== Sys2Proof/Machine/BusWrite.lean ====
section
/-! DEFINITION. The fifteen host writes to slots 1 to 15 (40_dispatch.md R75, 20_memory.md R45, R49). -/

namespace Sys2Proof.Machine

/-- WR_STATUS: write-one-to-clear of DONE, IGN and OVR, BUSY or not (10_state.md R33, 40_dispatch.md R75). -/
def execWrStatus (_lane : BitVec 2) (data : Word32) (s : State) : Result :=
  .next (clearSticky (clrDoneOf data) (clrIgnOf data) (clrOvrOf data) s)

/-- WR_IRQ_EN: DONE_IE <- data[0], BUSY or not (10_state.md R18, R34). -/
def execWrIrqEn (_lane : BitVec 2) (data : Word32) (s : State) : Result :=
  .next { s with doneIe := doneIeOf data }

/-- WR_RETRY: RETRY_LIMIT <- data[3:0], or IGN when BUSY = 1 (10_state.md R35, 40_dispatch.md R75). -/
def execWrRetry (_lane : BitVec 2) (data : Word32) (s : State) : Result :=
  .next (busyGuarded (fun t => { t with retryLimit := retryLimitOf data }) s)

/-- WR_TIMEOUT: TIMEOUT <- data, or IGN when BUSY = 1 (10_state.md R36, 40_dispatch.md R75). -/
def execWrTimeout (_lane : BitVec 2) (data : Word32) (s : State) : Result :=
  .next (busyGuarded (fun t => { t with timeout := data }) s)

/-- WR_RESULT: read-only, the write has no effect and does not set IGN (40_dispatch.md R75, 20_memory.md R49). -/
def execWrResult (_lane : BitVec 2) (_data : Word32) (s : State) : Result := .next s

/-- WR_DIGITS: read-only, the write has no effect and does not set IGN (40_dispatch.md R75, 20_memory.md R49). -/
def execWrDigits (_lane : BitVec 2) (_data : Word32) (s : State) : Result := .next s

/-- WR_FLAGS: read-only, the write has no effect and does not set IGN (40_dispatch.md R75, 20_memory.md R49). -/
def execWrFlags (_lane : BitVec 2) (_data : Word32) (s : State) : Result := .next s

/-- WR_ALIGN: read-only, the write has no effect and does not set IGN (40_dispatch.md R75, 20_memory.md R49). -/
def execWrAlign (_lane : BitVec 2) (_data : Word32) (s : State) : Result := .next s

/-- WR_FRAME0: read-only, the write has no effect and does not set IGN (40_dispatch.md R75, 20_memory.md R49). -/
def execWrFrame0 (_lane : BitVec 2) (_data : Word32) (s : State) : Result := .next s

/-- WR_FRAME1: read-only, the write has no effect and does not set IGN (40_dispatch.md R75, 20_memory.md R49). -/
def execWrFrame1 (_lane : BitVec 2) (_data : Word32) (s : State) : Result := .next s

/-- WR_FRAME2: read-only, the write has no effect and does not set IGN (40_dispatch.md R75, 20_memory.md R49). -/
def execWrFrame2 (_lane : BitVec 2) (_data : Word32) (s : State) : Result := .next s

/-- WR_FRAME3: read-only, the write has no effect and does not set IGN (40_dispatch.md R75, 20_memory.md R49). -/
def execWrFrame3 (_lane : BitVec 2) (_data : Word32) (s : State) : Result := .next s

/-- WR_UNMAPPED_34: the offset maps no register, the write has no effect and does not set IGN (10_state.md R42). -/
def execWrUnmapped34 (_lane : BitVec 2) (_data : Word32) (s : State) : Result := .next s

/-- WR_UNMAPPED_38: the offset maps no register, the write has no effect and does not set IGN (10_state.md R42). -/
def execWrUnmapped38 (_lane : BitVec 2) (_data : Word32) (s : State) : Result := .next s

/-- WR_UNMAPPED_3C: the offset maps no register, the write has no effect and does not set IGN (10_state.md R42). -/
def execWrUnmapped3C (_lane : BitVec 2) (_data : Word32) (s : State) : Result := .next s


end Sys2Proof.Machine
end

