-- ==== Sys2Proof/Machine/Command.lean ====
section
/-! DEFINITION. The four command writes to CMD (40_dispatch.md R77, R78, R85, R86; 41_sync.md R88; 43_read.md R111). -/

namespace Sys2Proof.Machine

/-- NOP: no operation, IGN not set even when BUSY = 1 (40_dispatch.md R85). -/
def execNop (_lane : BitVec 2) (_rest : BitVec 30) (s : State) : Result := .next s

/-- SYNC (41_sync.md R88): accepted when BUSY = 0 (40_dispatch.md R77), ignored with IGN when BUSY = 1 (R78). -/
def execSync (_lane : BitVec 2) (_rest : BitVec 30) (s : State) : Result :=
  .next (busyGuarded (fun t => startSync (accept t)) s)

/-- READ (43_read.md R111, R116): accepted when BUSY = 0 (40_dispatch.md R77), ignored with IGN when BUSY = 1
(R78). With RETRY_LIMIT = 0 it completes at once (43_read.md R118). -/
def execRead (_lane : BitVec 2) (_rest : BitVec 30) (s : State) : Result :=
  .next (busyGuarded (fun t => startRead (accept t)) s)

/-- CMD_RESERVED: no command starts, IGN is set, BUSY or not (40_dispatch.md R86). -/
def execCmdReserved (_lane : BitVec 2) (_rest : BitVec 30) (s : State) : Result := .next (setIgn s)

end Sys2Proof.Machine
end

