-- ==== Sys2Proof/Machine/DigitPair.lean ====
section
/-! DEFINITION. The thirteen rows of the digit lookup table (42_frame_decode.md R104, R105): the byte of one digit
cell is {000, HB, GLYPH} (30_encoding.md R67; log 7). -/

namespace Sys2Proof.Machine

/-- LUT_1: KEY 0x05 is the glyph code 0x1 (30_encoding.md R63, 42_frame_decode.md R104). -/
def execLut1 (cell : Fin 4) (hb : Bool) (s : State) : Result := .next (driveCell cell hb 0x1#4 s)

/-- LUT_2: KEY 0x5B is the glyph code 0x2 (30_encoding.md R63, 42_frame_decode.md R104). -/
def execLut2 (cell : Fin 4) (hb : Bool) (s : State) : Result := .next (driveCell cell hb 0x2#4 s)

/-- LUT_3: KEY 0x1F is the glyph code 0x3 (30_encoding.md R63, 42_frame_decode.md R104). -/
def execLut3 (cell : Fin 4) (hb : Bool) (s : State) : Result := .next (driveCell cell hb 0x3#4 s)

/-- LUT_4: KEY 0x27 is the glyph code 0x4 (30_encoding.md R63, 42_frame_decode.md R104). -/
def execLut4 (cell : Fin 4) (hb : Bool) (s : State) : Result := .next (driveCell cell hb 0x4#4 s)

/-- LUT_5: KEY 0x3E is the glyph code 0x5 (30_encoding.md R63, 42_frame_decode.md R104). -/
def execLut5 (cell : Fin 4) (hb : Bool) (s : State) : Result := .next (driveCell cell hb 0x5#4 s)

/-- LUT_6: KEY 0x7E is the glyph code 0x6 (30_encoding.md R63, 42_frame_decode.md R104). -/
def execLut6 (cell : Fin 4) (hb : Bool) (s : State) : Result := .next (driveCell cell hb 0x6#4 s)

/-- LUT_7: KEY 0x15 is the glyph code 0x7 (30_encoding.md R63, 42_frame_decode.md R104). -/
def execLut7 (cell : Fin 4) (hb : Bool) (s : State) : Result := .next (driveCell cell hb 0x7#4 s)

/-- LUT_8: KEY 0x7F is the glyph code 0x8 (30_encoding.md R63, 42_frame_decode.md R104). -/
def execLut8 (cell : Fin 4) (hb : Bool) (s : State) : Result := .next (driveCell cell hb 0x8#4 s)

/-- LUT_9: KEY 0x3F is the glyph code 0x9 (30_encoding.md R63, 42_frame_decode.md R104). -/
def execLut9 (cell : Fin 4) (hb : Bool) (s : State) : Result := .next (driveCell cell hb 0x9#4 s)

/-- LUT_0: KEY 0x7D is the glyph code 0x0 (30_encoding.md R63, 42_frame_decode.md R104). -/
def execLut0 (cell : Fin 4) (hb : Bool) (s : State) : Result := .next (driveCell cell hb 0x0#4 s)

/-- LUT_L: KEY 0x68 is the glyph code 0xA (30_encoding.md R63, 42_frame_decode.md R104). -/
def execLutL (cell : Fin 4) (hb : Bool) (s : State) : Result := .next (driveCell cell hb 0xA#4 s)

/-- LUT_BLANK: KEY 0x00 is the glyph code 0xB (30_encoding.md R63, 42_frame_decode.md R104). -/
def execLutBlank (cell : Fin 4) (hb : Bool) (s : State) : Result := .next (driveCell cell hb 0xB#4 s)

/-- LUT_X: every key outside the table is the glyph 'X', code 0xF (30_encoding.md R64). -/
def execLutX (cell : Fin 4) (hb : Bool) (_key : BitVec 7) (s : State) : Result := .next (driveCell cell hb 0xF#4 s)

end Sys2Proof.Machine
end

