-- ==== Sys2Proof/Machine/FlagNibble.lean ====
section
/-! DEFINITION. The six positions of the flag multiplexer (42_frame_decode.md R108): each of the four DATA bits of a
position drives one bit of the FLAGS word (30_encoding.md R70; log 8). -/

namespace Sys2Proof.Machine

/-- FLAGS_POS1: AC, DC, AUTO, RS232 at FLAGS bits 0, 1, 2, 3 (30_encoding.md R68, R70). -/
def execFlagsPos1 (data : Nibble) (s : State) : Result := .next (driveFlags 0 1 2 3 data s)

/-- FLAGS_POS10: micro, nano, kilo, diode at FLAGS bits 9, 8, 11, 22 (30_encoding.md R68, R70). -/
def execFlagsPos10 (data : Nibble) (s : State) : Result := .next (driveFlags 9 8 11 22 data s)

/-- FLAGS_POS11: milli, %, mega, beep at FLAGS bits 10, 21, 12, 4 (30_encoding.md R68, R70). -/
def execFlagsPos11 (data : Nibble) (s : State) : Result := .next (driveFlags 10 21 12 4 data s)

/-- FLAGS_POS12: Farads, Ohms, REL-delta, Hold at FLAGS bits 16, 17, 5, 6 (30_encoding.md R68, R70). -/
def execFlagsPos12 (data : Nibble) (s : State) : Result := .next (driveFlags 16 17 5 6 data s)

/-- FLAGS_POS13: Amps, volts, Hertz, other-13-1 at FLAGS bits 18, 19, 20, 24 (30_encoding.md R68, R70). -/
def execFlagsPos13 (data : Nibble) (s : State) : Result := .next (driveFlags 18 19 20 24 data s)

/-- FLAGS_POS14: other-14-4, Celsius, other-14-2, other-14-1 at FLAGS bits 25, 23, 26, 27 (30_encoding.md R68, R70). -/
def execFlagsPos14 (data : Nibble) (s : State) : Result := .next (driveFlags 25 23 26 27 data s)


end Sys2Proof.Machine
end

