-- ==== Sys2Proof/Machine/FrameByte.lean ====
section
/-! DEFINITION. The sixteen classes of stream bytes (30_encoding.md R60): what the sequencer does with a byte it has
popped from the FIFO, by the running phase (40_dispatch.md R81, R83; log 9). -/

namespace Sys2Proof.Machine

/-- FB_POS0: in MARK an invalid marker (41_sync.md R90); DISC R93, CAP 43_read.md R119. -/
def execFbPos0 (data : Nibble) (s : State) : Result := .next (phaseByte (markInvalid 0#4) (byteOf 0#4 data) s)

/-- FB_POS1: in MARK it begins a DISC phase of 13 bytes (41_sync.md R92); DISC R93, CAP 43_read.md R119. -/
def execFbPos1 (data : Nibble) (s : State) : Result := .next (phaseByte (markDiscard 1#4) (byteOf 1#4 data) s)

/-- FB_POS2: in MARK it begins a DISC phase of 12 bytes (41_sync.md R92); DISC R93, CAP 43_read.md R119. -/
def execFbPos2 (data : Nibble) (s : State) : Result := .next (phaseByte (markDiscard 2#4) (byteOf 2#4 data) s)

/-- FB_POS3: in MARK it begins a DISC phase of 11 bytes (41_sync.md R92); DISC R93, CAP 43_read.md R119. -/
def execFbPos3 (data : Nibble) (s : State) : Result := .next (phaseByte (markDiscard 3#4) (byteOf 3#4 data) s)

/-- FB_POS4: in MARK it begins a DISC phase of 10 bytes (41_sync.md R92); DISC R93, CAP 43_read.md R119. -/
def execFbPos4 (data : Nibble) (s : State) : Result := .next (phaseByte (markDiscard 4#4) (byteOf 4#4 data) s)

/-- FB_POS5: in MARK it begins a DISC phase of 9 bytes (41_sync.md R92); DISC R93, CAP 43_read.md R119. -/
def execFbPos5 (data : Nibble) (s : State) : Result := .next (phaseByte (markDiscard 5#4) (byteOf 5#4 data) s)

/-- FB_POS6: in MARK it begins a DISC phase of 8 bytes (41_sync.md R92); DISC R93, CAP 43_read.md R119. -/
def execFbPos6 (data : Nibble) (s : State) : Result := .next (phaseByte (markDiscard 6#4) (byteOf 6#4 data) s)

/-- FB_POS7: in MARK it begins a DISC phase of 7 bytes (41_sync.md R92); DISC R93, CAP 43_read.md R119. -/
def execFbPos7 (data : Nibble) (s : State) : Result := .next (phaseByte (markDiscard 7#4) (byteOf 7#4 data) s)

/-- FB_POS8: in MARK it begins a DISC phase of 6 bytes (41_sync.md R92); DISC R93, CAP 43_read.md R119. -/
def execFbPos8 (data : Nibble) (s : State) : Result := .next (phaseByte (markDiscard 8#4) (byteOf 8#4 data) s)

/-- FB_POS9: in MARK it begins a DISC phase of 5 bytes (41_sync.md R92); DISC R93, CAP 43_read.md R119. -/
def execFbPos9 (data : Nibble) (s : State) : Result := .next (phaseByte (markDiscard 9#4) (byteOf 9#4 data) s)

/-- FB_POS10: in MARK it begins a DISC phase of 4 bytes (41_sync.md R92); DISC R93, CAP 43_read.md R119. -/
def execFbPos10 (data : Nibble) (s : State) : Result := .next (phaseByte (markDiscard 10#4) (byteOf 10#4 data) s)

/-- FB_POS11: in MARK it begins a DISC phase of 3 bytes (41_sync.md R92); DISC R93, CAP 43_read.md R119. -/
def execFbPos11 (data : Nibble) (s : State) : Result := .next (phaseByte (markDiscard 11#4) (byteOf 11#4 data) s)

/-- FB_POS12: in MARK it begins a DISC phase of 2 bytes (41_sync.md R92); DISC R93, CAP 43_read.md R119. -/
def execFbPos12 (data : Nibble) (s : State) : Result := .next (phaseByte (markDiscard 12#4) (byteOf 12#4 data) s)

/-- FB_POS13: in MARK it begins a DISC phase of 1 bytes (41_sync.md R92); DISC R93, CAP 43_read.md R119. -/
def execFbPos13 (data : Nibble) (s : State) : Result := .next (phaseByte (markDiscard 13#4) (byteOf 13#4 data) s)

/-- FB_POS14: in MARK nothing is left to discard (41_sync.md R91); DISC R93, CAP 43_read.md R119. -/
def execFbPos14 (data : Nibble) (s : State) : Result := .next (phaseByte markLast (byteOf 14#4 data) s)

/-- FB_POS15: in MARK an invalid marker (41_sync.md R90); DISC R93, CAP 43_read.md R119. -/
def execFbPos15 (data : Nibble) (s : State) : Result := .next (phaseByte (markInvalid 15#4) (byteOf 15#4 data) s)


end Sys2Proof.Machine
end

