-- ==== Sys2Proof/Machine/Dispatch.lean ====
section
/-! DEFINITION. The dispatch of an instruction to its meaning: one arm per constructor of Instr. -/

namespace Sys2Proof.Machine

/-- The effect of one instruction at the point of a cycle where it acts (log 1). -/
def exec (i : Instr) (s : State) : Host.Outcome State Fault Refusal :=
  match i with
  | .rdCmd lane => Sys2Proof.Machine.execRdCmd lane s
  | .rdStatus lane => Sys2Proof.Machine.execRdStatus lane s
  | .rdIrqEn lane => Sys2Proof.Machine.execRdIrqEn lane s
  | .rdRetry lane => Sys2Proof.Machine.execRdRetry lane s
  | .rdTimeout lane => Sys2Proof.Machine.execRdTimeout lane s
  | .rdResult lane => Sys2Proof.Machine.execRdResult lane s
  | .rdDigits lane => Sys2Proof.Machine.execRdDigits lane s
  | .rdFlags lane => Sys2Proof.Machine.execRdFlags lane s
  | .rdAlign lane => Sys2Proof.Machine.execRdAlign lane s
  | .rdFrame0 lane => Sys2Proof.Machine.execRdFrame0 lane s
  | .rdFrame1 lane => Sys2Proof.Machine.execRdFrame1 lane s
  | .rdFrame2 lane => Sys2Proof.Machine.execRdFrame2 lane s
  | .rdFrame3 lane => Sys2Proof.Machine.execRdFrame3 lane s
  | .rdUnmapped34 lane => Sys2Proof.Machine.execRdUnmapped34 lane s
  | .rdUnmapped38 lane => Sys2Proof.Machine.execRdUnmapped38 lane s
  | .rdUnmapped3C lane => Sys2Proof.Machine.execRdUnmapped3C lane s
  | .nop lane rest => Sys2Proof.Machine.execNop lane rest s
  | .sync lane rest => Sys2Proof.Machine.execSync lane rest s
  | .read lane rest => Sys2Proof.Machine.execRead lane rest s
  | .cmdReserved lane rest => Sys2Proof.Machine.execCmdReserved lane rest s
  | .wrStatus lane data => Sys2Proof.Machine.execWrStatus lane data s
  | .wrIrqEn lane data => Sys2Proof.Machine.execWrIrqEn lane data s
  | .wrRetry lane data => Sys2Proof.Machine.execWrRetry lane data s
  | .wrTimeout lane data => Sys2Proof.Machine.execWrTimeout lane data s
  | .wrResult lane data => Sys2Proof.Machine.execWrResult lane data s
  | .wrDigits lane data => Sys2Proof.Machine.execWrDigits lane data s
  | .wrFlags lane data => Sys2Proof.Machine.execWrFlags lane data s
  | .wrAlign lane data => Sys2Proof.Machine.execWrAlign lane data s
  | .wrFrame0 lane data => Sys2Proof.Machine.execWrFrame0 lane data s
  | .wrFrame1 lane data => Sys2Proof.Machine.execWrFrame1 lane data s
  | .wrFrame2 lane data => Sys2Proof.Machine.execWrFrame2 lane data s
  | .wrFrame3 lane data => Sys2Proof.Machine.execWrFrame3 lane data s
  | .wrUnmapped34 lane data => Sys2Proof.Machine.execWrUnmapped34 lane data s
  | .wrUnmapped38 lane data => Sys2Proof.Machine.execWrUnmapped38 lane data s
  | .wrUnmapped3C lane data => Sys2Proof.Machine.execWrUnmapped3C lane data s
  | .fbPos0 data => Sys2Proof.Machine.execFbPos0 data s
  | .fbPos1 data => Sys2Proof.Machine.execFbPos1 data s
  | .fbPos2 data => Sys2Proof.Machine.execFbPos2 data s
  | .fbPos3 data => Sys2Proof.Machine.execFbPos3 data s
  | .fbPos4 data => Sys2Proof.Machine.execFbPos4 data s
  | .fbPos5 data => Sys2Proof.Machine.execFbPos5 data s
  | .fbPos6 data => Sys2Proof.Machine.execFbPos6 data s
  | .fbPos7 data => Sys2Proof.Machine.execFbPos7 data s
  | .fbPos8 data => Sys2Proof.Machine.execFbPos8 data s
  | .fbPos9 data => Sys2Proof.Machine.execFbPos9 data s
  | .fbPos10 data => Sys2Proof.Machine.execFbPos10 data s
  | .fbPos11 data => Sys2Proof.Machine.execFbPos11 data s
  | .fbPos12 data => Sys2Proof.Machine.execFbPos12 data s
  | .fbPos13 data => Sys2Proof.Machine.execFbPos13 data s
  | .fbPos14 data => Sys2Proof.Machine.execFbPos14 data s
  | .fbPos15 data => Sys2Proof.Machine.execFbPos15 data s
  | .lut1 cell hb => Sys2Proof.Machine.execLut1 cell hb s
  | .lut2 cell hb => Sys2Proof.Machine.execLut2 cell hb s
  | .lut3 cell hb => Sys2Proof.Machine.execLut3 cell hb s
  | .lut4 cell hb => Sys2Proof.Machine.execLut4 cell hb s
  | .lut5 cell hb => Sys2Proof.Machine.execLut5 cell hb s
  | .lut6 cell hb => Sys2Proof.Machine.execLut6 cell hb s
  | .lut7 cell hb => Sys2Proof.Machine.execLut7 cell hb s
  | .lut8 cell hb => Sys2Proof.Machine.execLut8 cell hb s
  | .lut9 cell hb => Sys2Proof.Machine.execLut9 cell hb s
  | .lut0 cell hb => Sys2Proof.Machine.execLut0 cell hb s
  | .lutL cell hb => Sys2Proof.Machine.execLutL cell hb s
  | .lutBlank cell hb => Sys2Proof.Machine.execLutBlank cell hb s
  | .lutX cell hb key => Sys2Proof.Machine.execLutX cell hb key s
  | .flagsPos1 data => Sys2Proof.Machine.execFlagsPos1 data s
  | .flagsPos10 data => Sys2Proof.Machine.execFlagsPos10 data s
  | .flagsPos11 data => Sys2Proof.Machine.execFlagsPos11 data s
  | .flagsPos12 data => Sys2Proof.Machine.execFlagsPos12 data s
  | .flagsPos13 data => Sys2Proof.Machine.execFlagsPos13 data s
  | .flagsPos14 data => Sys2Proof.Machine.execFlagsPos14 data s

end Sys2Proof.Machine
end

