-- ==== Sys2Proof/Machine/Cycle.lean ====
section
/-! DEFINITION. One clock cycle (40_dispatch.md R74), built from the instructions it runs: the decode logic reads FRAME,
the host's access acts, the sequencer takes its turn, the byte source pushes. Also where `withFetchWord` places
a word. The order of the host's access is DEDUCED (log 5). -/

namespace Sys2Proof.Machine

/-- Decode a coded word and run its instruction. -/
def runCode (c : Code) (s : State) : Result :=
  match decode c with
  | .ok i => exec i s
  | .error e => .refused (.undecodable e)

/-- Run coded words one after the other. -/
def runCodes : List Code → State → Result
  | [], s => .next s
  | c :: cs, s => andThen (runCode c s) (runCodes cs)

/-- The pins of this cycle and the state that has taken them: the next placed pins, or a free draw when none are
placed (10_state.md R9, R12, R13; logs 2 and 3). -/
def nextPins (s : State) : Pins × State :=
  match s.inputs with
  | p :: rest => (p, { s with inputs := rest })
  | [] => (Config.freePins s.draws, { s with draws := s.draws + 1 })

/-- What the decode logic reads from FRAME in every cycle (42_frame_decode.md R98): the pairs of the four digit
cells (R105) and the nibbles of the six flag positions (R108). -/
def frameCodes (f : Frame) : List Code :=
  [.digitPair 0 (hbOf f 0) (keyOf f 0), .digitPair 1 (hbOf f 1) (keyOf f 1),
   .digitPair 2 (hbOf f 2) (keyOf f 2), .digitPair 3 (hbOf f 3) (keyOf f 3),
   flagCode f 0, flagCode f 9, flagCode f 10, flagCode f 11, flagCode f 12, flagCode f 13]

/-- The output nets of the cycle settle on the FRAME at its start (42_frame_decode.md R98, 20_memory.md R44). -/
def settle (s : State) : Result := runCodes (frameCodes s.frame) (clearNets s)

/-- The host's access of the cycle, if there is one (40_dispatch.md R75, 20_memory.md R44). -/
def hostAccess (p : Pins) (s : State) : Result :=
  match busCode p with
  | some c => runCode c s
  | none => .next s

/-- SequencerCycle (40_dispatch.md R81): a waiting byte is popped (10_state.md R26) and its instruction runs; else
the timeout is considered (R82). -/
def sequencerTurn (s : State) : Result :=
  match s.fifo with
  | b :: rest => runCode (.frameByte b) { s with fifo := rest }
  | [] => .next (emptyCycle s)

/-- A cycle with rst = 1 (70_reset_and_hazards.md R150): RESET_STATE, every other input ignored, bus_rdata 0. The
build, the pins still to come and the draw counter are the model's own and stay (log 16). -/
def resetCycle (s : State) : State :=
  { State.resetOf s.build with inputs := s.inputs, draws := s.draws }

/-- A cycle with rst = 0. The sequencer runs when the phase at the start of the cycle is not IDLE (R74). -/
def runCycle (p : Pins) (s : State) : Result :=
  andThen (settle s) fun s1 =>
  andThen (hostAccess p s1) fun s2 =>
  andThen (if s.phase = .idle then .next s2 else sequencerTurn s2) fun s3 =>
  .next (push p s3)

/-- One clock cycle (40_dispatch.md R74). -/
def cycle (s : State) : Result :=
  let (p, t) := nextPins s
  if p.rst then .next (resetCycle t) else runCycle p t

/-! ## Placing a word where the next cycle runs it (log 11) -/

/-- Change the pins of the next cycle, with rst = 0 there. Where no pins are placed, those of an idle cycle are
taken first. -/
def placePins (f : Pins → Pins) (s : State) : State :=
  match s.inputs with
  | p :: rest => { s with inputs := { f p with rst := false } :: rest }
  | [] => { s with inputs := [{ f Pins.idle with rst := false }] }

/-- A stream byte at the head of the FIFO, with a running phase to consume it: the phase that runs, or a SYNC in
its first cycle when none runs. -/
def placeByte (b : Byte) (s : State) : State :=
  let t := if s.phase = .idle then startSync (accept s) else s
  { t with fifo := b :: s.fifo.drop 1 }

/-- The pair of a digit cell, in the bits of FRAME it is read from (30_encoding.md R62). -/
def placePair (k : Fin 4) (hb : Bool) (key : BitVec 7) (s : State) : State :=
  let a : Byte := (pos (byteA s.frame k) ++ BitVec.ofBool hb ++ key.extractLsb' 4 3).cast rfl
  let b : Byte := (pos (byteB s.frame k) ++ key.extractLsb' 0 4).cast rfl
  { s with frame := (s.frame.setIfInBounds (2 * k.val + 1) a).setIfInBounds (2 * k.val + 2) b }

/-- A flag nibble, at the frame byte of its position (30_encoding.md R68). -/
def placeFlag (b : Byte) (s : State) : State :=
  let i := (pos b).toNat - 1
  { s with frame := s.frame.setIfInBounds i b }

/-- Place a coded word where the next cycle decodes and runs it. -/
def placeCode (c : Code) (s : State) : State :=
  match c with
  | .busRead a => placePins (fun p => { p with busRd := true, busWr := false, busAddr := a }) s
  | .busWrite a v =>
    placePins (fun p => { p with busWr := true, busRd := false, busAddr := a, busWdata := v }) s
  | .frameByte b => placePins id (placeByte b s)
  | .digitPair k hb key => placePins id (placePair k hb key s)
  | .flagNibble b => placePins id (placeFlag b s)

end Sys2Proof.Machine
end

