-- ==== Sys2Proof/Machine/Step.lean ====
section
/-! DEFINITION. The step of the machine: one clock cycle (40_dispatch.md R74). -/

namespace Sys2Proof.Machine

/-- One step is one clock cycle (40_dispatch.md R74; log 1). -/
def step (s : State) : Host.Outcome State Fault Refusal := cycle s

/-- `s` with a word of spec/opcode_table.json placed where the next step runs it (logs 10 and 11); `s` itself where
the word stands for no instruction. -/
def State.withFetchWord (s : State) (nbits w : Nat) : State :=
  match tableCode nbits w with
  | some c => placeCode c s
  | none => s

end Sys2Proof.Machine
end

