-- ==== Sys2Proof/Machine/Reference.lean ====
section
/-! DEFINITION. The clock cycle once more, transcribed line by line from the spec's pseudocode (40_dispatch.md R74 to
R81, 41_sync.md R88 to R95, 43_read.md R116 to R123), in the spec's order and with its working variables. The
step does not use it: a statement says that the step gives the same next state. -/

namespace Sys2Proof.Machine

/-- The working variables of one cycle (40_dispatch.md R74): `next` is s', the rest are its flags. -/
structure RefWork where
  next : State
  moved : Bool
  popped : Bool
  setDone : Bool
  setIgn : Bool
  setOvr : Bool
  clrDone : Bool
  clrIgn : Bool
  clrOvr : Bool

/-- BeginPhase(ph, n) (40_dispatch.md R79). -/
def refBeginPhase (ph : Phase) (n : Nibble) (w : RefWork) : RefWork :=
  { w with next := { w.next with phase := ph, need := n, cnt := 0#4, tmr := 0#32 }, moved := true }

/-- Complete(err) (40_dispatch.md R80). -/
def refComplete (e : Err) (w : RefWork) : RefWork :=
  { w with
    next := { w.next with
      phase := .idle, need := 0#4, cnt := 0#4, tmr := 0#32, busy := false, done := true, err := e }
    moved := true
    setDone := true }

/-- NextAttempt() (43_read.md R117): `a` is s'.ATTEMPT, the limit is s.RETRY_LIMIT. -/
def refNextAttempt (s : State) (w : RefWork) : RefWork :=
  let a := w.next.attempt
  if a < s.retryLimit then
    refBeginPhase .cap 14#4
      { w with next := { w.next with attempt := a + 1#4, frame := frameZero, rxcnt := 0#4 } }
  else refComplete .readFailure w

/-- SyncDone() (41_sync.md R95). -/
def refSyncDone (s : State) (w : RefWork) : RefWork :=
  if s.ctx = .sync then refComplete .none w else refNextAttempt s w

/-- PhaseByte(MARK, b) (41_sync.md R90, R91, R92). -/
def refMarkByte (s : State) (b : Byte) (w : RefWork) : RefWork :=
  let w1 := { w with next := { w.next with marker := pos b } }
  if pos b = 0#4 ∨ pos b = 15#4 then refComplete .invalidMarker w1
  else if pos b = 14#4 then refSyncDone s w1
  else refBeginPhase .disc (BitVec.ofNat 4 (14 - (pos b).toNat)) w1

/-- PhaseByte(DISC, b) (41_sync.md R93). -/
def refDiscByte (s : State) (w : RefWork) : RefWork :=
  if s.cnt.toNat + 1 = s.need.toNat then refSyncDone s w
  else { w with next := { w.next with cnt := s.cnt + 1#4 } }

/-- PhaseByte(CAP, b) (43_read.md R119) with CaptureDone on s'.FRAME (R120), Success (R121) and Resync
(R123). -/
def refCapByte (s : State) (b : Byte) (w : RefWork) : RefWork :=
  let w1 := { w with next := { w.next with
    frame := w.next.frame.setIfInBounds s.cnt.toNat b, rxcnt := s.cnt + 1#4 } }
  if s.cnt.toNat + 1 = 14 then
    if ∀ i : Fin 14, pos w1.next.frame[i] = BitVec.ofNat 4 (i.val + 1) then
      refComplete .none { w1 with next := { w1.next with valid := true } }
    else refBeginPhase .mark 1#4 w1
  else { w1 with next := { w1.next with cnt := s.cnt + 1#4 } }

/-- PhaseByte (40_dispatch.md R83). -/
def refPhaseByte (s : State) (b : Byte) (w : RefWork) : RefWork :=
  match s.phase with
  | .idle => w
  | .mark => refMarkByte s b w
  | .disc => refDiscByte s w
  | .cap => refCapByte s b w

/-- PhaseTimeout (40_dispatch.md R83): 41_sync.md R89, R94, 43_read.md R122. -/
def refPhaseTimeout (s : State) (w : RefWork) : RefWork :=
  match s.phase with
  | .idle => w
  | .mark => refComplete .noData w
  | .disc => refSyncDone s w
  | .cap => refBeginPhase .mark 1#4 w

/-- SequencerCycle() (40_dispatch.md R81). -/
def refSequencerCycle (s : State) (w : RefWork) : RefWork :=
  let w1 :=
    match s.fifo with
    | b :: rest => refPhaseByte s b { w with next := { w.next with fifo := rest }, popped := true }
    | [] => if s.tmr ≥ s.timeout then refPhaseTimeout s w else w
  if w1.moved then w1
  else { w1 with next := { w1.next with
    tmr := BitVec.ofNat 32 (min (s.tmr.toNat + 1) (2 ^ 32 - 1)) } }

/-- Step (2) of the cycle: the byte source (40_dispatch.md R74, 20_memory.md R53). -/
def refByteSource (p : Pins) (s : State) (w : RefWork) : RefWork :=
  if p.rxValid then
    if s.fifo.length - (if w.popped then 1 else 0) < s.build.fifoDepth then
      { w with next := { w.next with fifo := w.next.fifo ++ [p.rxData] } }
    else { w with next := { w.next with ovr := true }, setOvr := true }
  else w

/-- An ignored host write: s'.IGN <- 1; setIGN <- 1 (40_dispatch.md R78, R86). -/
def refIgnored (w : RefWork) : RefWork := { w with next := { w.next with ign := true }, setIgn := true }

/-- CommandWrite(op) (40_dispatch.md R77, R78, R85, R86) with StartSync (41_sync.md R88) and StartRead
(43_read.md R116). -/
def refCommandWrite (s : State) (op : Nat) (w : RefWork) : RefWork :=
  let accepted := { w with next := { w.next with busy := true, done := false, err := .none } }
  match op with
  | 0 => w
  | 1 =>
    if s.busy then refIgnored w
    else refBeginPhase .mark 1#4 { accepted with next := { accepted.next with ctx := .sync } }
  | 2 =>
    if s.busy then refIgnored w
    else refNextAttempt s
      { accepted with next := { accepted.next with ctx := .read, valid := false, attempt := 0#4 } }
  | _ => refIgnored w

/-- HostWrite(slot, v) (40_dispatch.md R75). -/
def refHostWrite (s : State) (slot : Nat) (v : Word32) (w : RefWork) : RefWork :=
  match slot with
  | 0 => refCommandWrite s (v.toNat % 4) w
  | 1 => { w with clrDone := v.getLsbD 1, clrIgn := v.getLsbD 5, clrOvr := v.getLsbD 6 }
  | 2 => { w with next := { w.next with doneIe := v.getLsbD 0 } }
  | 3 =>
    if s.busy then refIgnored w
    else { w with next := { w.next with retryLimit := BitVec.ofNat 4 (v.toNat % 16) } }
  | 4 => if s.busy then refIgnored w else { w with next := { w.next with timeout := v } }
  | _ => w

/-- StickyMerge() (40_dispatch.md R76): s'.X <- (s'.X AND NOT clrX) OR setX. -/
def refStickyMerge (w : RefWork) : State :=
  { w.next with
    done := (w.next.done && !w.clrDone) || w.setDone
    ign := (w.next.ign && !w.clrIgn) || w.setIgn
    ovr := (w.next.ovr && !w.clrOvr) || w.setOvr }

/-- bus_rdata of the cycle: MemRead of the state at its start (20_memory.md R44, R46), 0 with no read or with
bus_wr = 1 (10_state.md R13). -/
def refReadData (p : Pins) (s : State) : Word32 :=
  if p.busRd && !p.busWr then
    match p.busAddr.toNat / 4 with
    | 1 => statusWord s
    | 2 => irqEnWord s
    | 3 => retryWord s
    | 4 => s.timeout
    | 5 => resultWord s
    | 6 => digitsWord s.frame
    | 7 => flagsWord s.frame
    | 8 => alignWord s.frame
    | 9 => frame0Word s.frame
    | 10 => frame1Word s.frame
    | 11 => frame2Word s.frame
    | 12 => frame3Word s.frame
    | _ => 0#32
  else 0#32

/-- The output nets of the cycle: bus_rdata and the views of FRAME at its start (20_memory.md R44,
42_frame_decode.md R98). -/
def refNets (p : Pins) (s : State) : Outputs :=
  { rdata := refReadData p s, cells := Vector.ofFn (digitCell s.frame), flags := flagsWord s.frame }

/-- Step(s, in) (40_dispatch.md R74). -/
def refCycle (p : Pins) (s : State) : State :=
  if p.rst then resetCycle s
  else
    let w0 : RefWork :=
      { next := { s with out := refNets p s }, moved := false, popped := false, setDone := false,
        setIgn := false, setOvr := false, clrDone := false, clrIgn := false, clrOvr := false }
    let w1 := if s.phase ≠ .idle then refSequencerCycle s w0 else w0
    let w2 := refByteSource p s w1
    let w3 := if p.busWr then refHostWrite s (p.busAddr.toNat / 4) p.busWdata w2 else w2
    refStickyMerge w3

end Sys2Proof.Machine
end

