-- ==== Sys2Proof/Safety.lean ====
section
/-! DEFINITION. The terms the statements use: the invariant of every state that a run reaches (10_state.md R19 to R30),
where a register stands, the frame-byte instructions by position, and the subtractive walk of 42_frame_decode.md R107. -/

namespace Sys2Proof.Machine

/-- What holds at reset and is kept by every cycle. -/
structure Inv (s : State) : Prop where
  /-- "BUSY = 1 exactly when PHASE is not IDLE" (10_state.md R19). -/
  busy_iff_running : s.busy = true ↔ s.phase ≠ .idle
  /-- "PHASE = IDLE implies NEED = CNT = TMR = 0" (R25). -/
  idle_is_quiet : s.phase = .idle → s.need = 0#4 ∧ s.cnt = 0#4 ∧ s.tmr = 0#32
  /-- "In the other phases, CNT < NEED at the start of every cycle" (R25). -/
  count_below_need : s.phase ≠ .idle → s.cnt < s.need
  /-- NEED is 1 in MARK (R25). -/
  need_in_mark : s.phase = .mark → s.need = 1#4
  /-- NEED is 14 - p in DISC, p the marker in 1..13 (R25, 41_sync.md R92). -/
  need_in_disc : s.phase = .disc →
    1 ≤ s.marker.toNat ∧ s.marker.toNat ≤ 13 ∧ s.need.toNat = 14 - s.marker.toNat
  /-- NEED is 14 in CAP, which only a READ enters, and RXCNT mirrors CNT there (R25, R43). -/
  need_in_cap : s.phase = .cap → s.need = 14#4 ∧ s.ctx = .read ∧ s.rxcnt = s.cnt
  /-- "ATTEMPT never exceeds RETRY_LIMIT" while a READ runs, and is at least 1 (43_read.md R117). -/
  attempt_in_budget : s.phase ≠ .idle → s.ctx = .read →
    1 ≤ s.attempt.toNat ∧ s.attempt.toNat ≤ s.retryLimit.toNat
  /-- A READ that runs claims no frame (43_read.md R116). -/
  no_frame_while_reading : s.phase ≠ .idle → s.ctx = .read → s.valid = false
  /-- "VALID = 1 implies ALIGNED = 1" (42_frame_decode.md R99), and all 14 bytes were captured. -/
  valid_is_aligned : s.valid = true → aligned s.frame = true ∧ s.rxcnt = 14#4
  /-- RXCNT is 0..14 (10_state.md R29). -/
  rxcnt_in_range : s.rxcnt.toNat ≤ 14
  /-- FRAME holds the bytes that arrived, then 0x00 (10_state.md R27). -/
  frame_tail_is_zero : ∀ i : Fin 14, s.rxcnt.toNat ≤ i.val → s.frame[i] = 0#8
  /-- A running command has neither DONE nor an ERR (40_dispatch.md R77, R80). -/
  no_outcome_while_running : s.phase ≠ .idle → s.done = false ∧ s.err = .none
  /-- A completed READ has VALID exactly when its ERR is NONE (43_read.md R126, 60_exceptions.md R131). -/
  read_outcome : s.done = true → s.ctx = .read → (s.valid = true ↔ s.err = .none)
  /-- INVALID_MARKER goes with MARKER 0 or 15 (60_exceptions.md R131). -/
  invalid_marker_outcome : s.done = true → s.err = .invalidMarker → s.marker = 0#4 ∨ s.marker = 15#4
  /-- 0 ≤ LEVEL ≤ FIFO_DEPTH (10_state.md R26). -/
  fifo_fits : s.fifo.length ≤ s.build.fifoDepth
  /-- The build is legal (00_scope.md R5). -/
  build_is_legal : s.build.wf

/-- The register at byte offset `off` is read by `rd` and written by `wr`, whatever the ignored address bits are
(10_state.md R31, 20_memory.md R46). -/
def IsAt (off : Addr) (rd : BitVec 2 → Instr) (wr : BitVec 2 → Word32 → Instr) : Prop :=
  ∀ (lane : BitVec 2) (v : Word32),
    decode (.busRead (off ||| lane.setWidth 6)) = .ok (rd lane) ∧
    decode (.busWrite (off ||| lane.setWidth 6) v) = .ok (wr lane v)

/-- Writing a register with `wr` changes nothing, whatever the data. -/
def IgnoresWrites (wr : BitVec 2 → Word32 → Instr) : Prop :=
  ∀ (lane : BitVec 2) (v : Word32) (s : State), exec (wr lane v) s = .next s

/-- The frame-byte instruction of position `p` with payload `d` (30_encoding.md R60). -/
def fbInstr (p : Fin 16) (d : Nibble) : Instr :=
  match p.val with
  | 0 => .fbPos0 d
  | 1 => .fbPos1 d
  | 2 => .fbPos2 d
  | 3 => .fbPos3 d
  | 4 => .fbPos4 d
  | 5 => .fbPos5 d
  | 6 => .fbPos6 d
  | 7 => .fbPos7 d
  | 8 => .fbPos8 d
  | 9 => .fbPos9 d
  | 10 => .fbPos10 d
  | 11 => .fbPos11 d
  | 12 => .fbPos12 d
  | 13 => .fbPos13 d
  | 14 => .fbPos14 d
  | _ => .fbPos15 d

/-- The subtractive walk over one low nibble (42_frame_decode.md R107): for the bit values 8, 4, 2, 1 in turn,
record whether what remains reaches the value, and subtract it if so. -/
def subtractiveWalk (x : Nat) : List Nat → List Bool
  | [] => []
  | v :: vs => decide (v ≤ x) :: subtractiveWalk (if v ≤ x then x - v else x) vs

/-- The names a low nibble records, bit 3's first, by the walk of 42_frame_decode.md R107. -/
def walkNames (b : Byte) : List Bool := subtractiveWalk (b.toNat % 16) [8, 4, 2, 1]

/-- The state of `k` cycles on is `t`. -/
abbrev RunsTo (k : Nat) (s t : State) : Prop := Sys2Proof.core.run k s = .next t

end Sys2Proof.Machine
end

