-- ==== Sys2Proof/WellFormed.lean ====
section
/-! DEFINITION. Which instructions the encodings admit. Every operand is a bit vector of its field's width or an
index of its range, so the one check is that LUT_X stands only for keys outside the lookup table. -/

namespace Sys2Proof

/-- LUT_X is "any KEY not matched by another LUT_ row" (opcode table; 30_encoding.md R64). -/
def Instr.wellFormed : Instr → Bool
  | .lutX _ _ key => !(lutTable.any fun row => row.1 == key)
  | .rdCmd _ => true
  | .rdStatus _ => true
  | .rdIrqEn _ => true
  | .rdRetry _ => true
  | .rdTimeout _ => true
  | .rdResult _ => true
  | .rdDigits _ => true
  | .rdFlags _ => true
  | .rdAlign _ => true
  | .rdFrame0 _ => true
  | .rdFrame1 _ => true
  | .rdFrame2 _ => true
  | .rdFrame3 _ => true
  | .rdUnmapped34 _ => true
  | .rdUnmapped38 _ => true
  | .rdUnmapped3C _ => true
  | .nop _ _ => true
  | .sync _ _ => true
  | .read _ _ => true
  | .cmdReserved _ _ => true
  | .wrStatus _ _ => true
  | .wrIrqEn _ _ => true
  | .wrRetry _ _ => true
  | .wrTimeout _ _ => true
  | .wrResult _ _ => true
  | .wrDigits _ _ => true
  | .wrFlags _ _ => true
  | .wrAlign _ _ => true
  | .wrFrame0 _ _ => true
  | .wrFrame1 _ _ => true
  | .wrFrame2 _ _ => true
  | .wrFrame3 _ _ => true
  | .wrUnmapped34 _ _ => true
  | .wrUnmapped38 _ _ => true
  | .wrUnmapped3C _ _ => true
  | .fbPos0 _ => true
  | .fbPos1 _ => true
  | .fbPos2 _ => true
  | .fbPos3 _ => true
  | .fbPos4 _ => true
  | .fbPos5 _ => true
  | .fbPos6 _ => true
  | .fbPos7 _ => true
  | .fbPos8 _ => true
  | .fbPos9 _ => true
  | .fbPos10 _ => true
  | .fbPos11 _ => true
  | .fbPos12 _ => true
  | .fbPos13 _ => true
  | .fbPos14 _ => true
  | .fbPos15 _ => true
  | .lut1 _ _ => true
  | .lut2 _ _ => true
  | .lut3 _ _ => true
  | .lut4 _ _ => true
  | .lut5 _ _ => true
  | .lut6 _ _ => true
  | .lut7 _ _ => true
  | .lut8 _ _ => true
  | .lut9 _ _ => true
  | .lut0 _ _ => true
  | .lutL _ _ => true
  | .lutBlank _ _ => true
  | .flagsPos1 _ => true
  | .flagsPos10 _ => true
  | .flagsPos11 _ => true
  | .flagsPos12 _ => true
  | .flagsPos13 _ => true
  | .flagsPos14 _ => true

/-- An instruction that some coded word stands for. -/
abbrev WellFormed (i : Instr) : Prop := i.wellFormed = true

end Sys2Proof
end

