-- ==== Sys2Proof/Certificates/Slice0/Obligations.lean ====
section
/-! DEFINITION. The statements about FSYNC: encoding, registers, commands, stream bytes, the decode logic, the cycle, and
the rules of the whole machine. -/

open Sys2Proof Sys2Proof.Machine

/-! ## Encoding -/

/-- Decoding the coded word of a well-formed instruction gives it back, with every operand (30_encoding.md R57 to
R68). -/
def Obligations.DecodeEncodeRoundTrip : Prop :=
  ∀ i : Instr, WellFormed i → decode (encode i) = .ok i

/-- A coded word that decodes is the coded word of the instruction it decodes to, which is well formed
(30_encoding.md R57 to R68): no bit of a word is dropped and each instruction has one word. -/
def Obligations.EncodeDecodeRoundTrip : Prop :=
  ∀ (c : Code) (i : Instr), decode c = .ok i → encode i = c ∧ WellFormed i

/-- Words written out from the spec's encodings decode to the instructions they stand for (the encodings of
95_test_vectors.md P1 and P4, V-B3, V-T2, V-F2, V-E6). -/
def Obligations.WordsOfTheSpecDecode : Prop :=
  decode (.busWrite 0x00#6 0x00000001#32) = .ok (.sync 0#2 0#30) ∧
  decode (.busWrite 0x00#6 0x00000002#32) = .ok (.read 0#2 0#30) ∧
  decode (.busWrite 0x00#6 0xFFFFFFFC#32) = .ok (.nop 0#2 0x3FFFFFFF#30) ∧
  decode (.busWrite 0x00#6 0x00000003#32) = .ok (.cmdReserved 0#2 0#30) ∧
  decode (.busWrite 0x04#6 0x00000022#32) = .ok (.wrStatus 0#2 0x22#32) ∧
  decode (.busWrite 0x0C#6 0x00000001#32) = .ok (.wrRetry 0#2 1#32) ∧
  decode (.busRead 0x07#6) = .ok (.rdStatus 3#2) ∧
  decode (.busRead 0x18#6) = .ok (.rdDigits 0#2) ∧
  decode (.busRead 0x3C#6) = .ok (.rdUnmapped3C 0#2) ∧
  decode (.frameByte 0x3A#8) = .ok (.fbPos3 0xA#4) ∧
  decode (.frameByte 0xF3#8) = .ok (.fbPos15 3#4) ∧
  decode (.digitPair 1 true 0x5B#7) = .ok (.lut2 1 true) ∧
  decode (.digitPair 0 false 0x12#7) = .ok (.lutX 0 false 0x12#7) ∧
  decode (.flagNibble 0xCB#8) = .ok (.flagsPos12 0xB#4) ∧
  decode (.flagNibble 0x2F#8) = .error (.notAFlagPosition 2#4)

/-- Two offsets of one slot reach the same register, for a read and for a write of any data (20_memory.md R46,
R47). -/
def Obligations.OffsetLowBitsIgnored : Prop :=
  ∀ (a b : Addr) (s : State), a.extractLsb' 2 4 = b.extractLsb' 2 4 →
    runCode (.busRead a) s = runCode (.busRead b) s ∧
    ∀ v : Word32, runCode (.busWrite a v) s = runCode (.busWrite b v) s

/-! ## Registers -/

/-- STATUS (10_state.md R33): the fields a read returns, the reserved bits 0, the reset value 0, and a write that
clears DONE, IGN and OVR where its bits 1, 5 and 6 are 1 and changes nothing else, whatever BUSY is. -/
def Obligations.StatusRegister : Prop :=
  IsAt 0x04#6 .rdStatus .wrStatus ∧
  (∀ (lane : BitVec 2) (s : State), ∃ w : Word32,
    exec (.rdStatus lane) s = .next { s with out := { s.out with rdata := w } } ∧
    w.getLsbD 0 = s.busy ∧ w.getLsbD 1 = s.done ∧
    w.extractLsb' 2 2 =
      (match s.err with | .none => 0#2 | .noData => 1#2 | .invalidMarker => 2#2 | .readFailure => 3#2) ∧
    w.getLsbD 4 = s.valid ∧ w.getLsbD 5 = s.ign ∧ w.getLsbD 6 = s.ovr ∧ w.getLsbD 7 = false ∧
    w.extractLsb' 8 8 = BitVec.ofNat 8 s.fifo.length ∧
    w.extractLsb' 16 2 = (match s.phase with | .idle => 0#2 | .mark => 1#2 | .disc => 2#2 | .cap => 3#2) ∧
    w.getLsbD 18 = (match s.ctx with | .sync => false | .read => true) ∧
    w.extractLsb' 19 13 = 0#13) ∧
  (∀ (lane : BitVec 2) (b : Build), ∃ t : State,
    exec (.rdStatus lane) (State.resetOf b) = .next t ∧ t.out.rdata = 0#32) ∧
  (∀ (lane : BitVec 2) (v : Word32) (s : State),
    exec (.wrStatus lane v) s = .next { s with
      done := if v.getLsbD 1 then false else s.done
      ign := if v.getLsbD 5 then false else s.ign
      ovr := if v.getLsbD 6 then false else s.ovr })

/-- IRQ_EN (10_state.md R34): bit 0 is DONE_IE, read and written at any time, reset 0; the other bits read 0 and are
ignored on write. -/
def Obligations.IrqEnRegister : Prop :=
  IsAt 0x08#6 .rdIrqEn .wrIrqEn ∧
  (∀ (lane : BitVec 2) (s : State), ∃ w : Word32,
    exec (.rdIrqEn lane) s = .next { s with out := { s.out with rdata := w } } ∧
    w.getLsbD 0 = s.doneIe ∧ w.extractLsb' 1 31 = 0#31) ∧
  (∀ (lane : BitVec 2) (v : Word32) (s : State),
    exec (.wrIrqEn lane v) s = .next { s with doneIe := v.getLsbD 0 }) ∧
  ∀ b : Build, (State.resetOf b).doneIe = false

/-- RETRY (10_state.md R35): bits 3 to 0 are RETRY_LIMIT, reset 3; the other bits read 0 and are ignored on write; a
write while BUSY = 1 is ignored and sets IGN. -/
def Obligations.RetryRegister : Prop :=
  IsAt 0x0C#6 .rdRetry .wrRetry ∧
  (∀ (lane : BitVec 2) (s : State), ∃ w : Word32,
    exec (.rdRetry lane) s = .next { s with out := { s.out with rdata := w } } ∧
    w.extractLsb' 0 4 = s.retryLimit ∧ w.extractLsb' 4 28 = 0#28) ∧
  (∀ (lane : BitVec 2) (v : Word32) (s : State),
    exec (.wrRetry lane v) s =
      if s.busy then .next { s with ign := true } else .next { s with retryLimit := v.extractLsb' 0 4 }) ∧
  ∀ b : Build, (State.resetOf b).retryLimit = 3#4

/-- TIMEOUT (10_state.md R36): all 32 bits are TIMEOUT, reset TIMEOUT_RESET = min(3 * F_CLK_HZ, 2^32 - 1); a write
while BUSY = 1 is ignored and sets IGN. -/
def Obligations.TimeoutRegister : Prop :=
  IsAt 0x10#6 .rdTimeout .wrTimeout ∧
  (∀ (lane : BitVec 2) (s : State),
    exec (.rdTimeout lane) s = .next { s with out := { s.out with rdata := s.timeout } }) ∧
  (∀ (lane : BitVec 2) (v : Word32) (s : State),
    exec (.wrTimeout lane v) s =
      if s.busy then .next { s with ign := true } else .next { s with timeout := v }) ∧
  ∀ b : Build, (State.resetOf b).timeout.toNat = min (3 * b.fClkHz) (2 ^ 32 - 1)

/-- RESULT (10_state.md R37): ATTEMPT, RXCNT and MARKER in their fields, the reserved bits 0, reset 0; a
write is ignored. -/
def Obligations.ResultRegister : Prop :=
  IsAt 0x14#6 .rdResult .wrResult ∧ IgnoresWrites .wrResult ∧
  (∀ (lane : BitVec 2) (s : State), ∃ w : Word32,
    exec (.rdResult lane) s = .next { s with out := { s.out with rdata := w } } ∧
    w.extractLsb' 0 4 = s.attempt ∧ w.extractLsb' 4 4 = 0#4 ∧ w.extractLsb' 8 4 = s.rxcnt ∧
    w.extractLsb' 12 4 = 0#4 ∧ w.extractLsb' 16 4 = s.marker ∧ w.extractLsb' 20 12 = 0#12) ∧
  ∀ b : Build, (State.resetOf b).attempt = 0#4 ∧ (State.resetOf b).rxcnt = 0#4 ∧
    (State.resetOf b).marker = 0#4

/-- DIGITS (10_state.md R38, 42_frame_decode.md R106): byte k of the word is digit cell k of FRAME, the sign cell in bits
7 to 0; a write is ignored. The reset view is in ResetCycleGivesResetState. -/
def Obligations.DigitsRegister : Prop :=
  IsAt 0x18#6 .rdDigits .wrDigits ∧ IgnoresWrites .wrDigits ∧
  ∀ (lane : BitVec 2) (s : State), ∃ w : Word32,
    exec (.rdDigits lane) s = .next { s with out := { s.out with rdata := w } } ∧
    ∀ k : Fin 4, w.extractLsb' (8 * k.val) 8 = digitCell s.frame k

/-- FLAGS (10_state.md R39 with the bits of 30_encoding.md R70): each of the 24 named bits is its one bit of FRAME, the
other bits are 0, and a write is ignored. The reset view is in ResetCycleGivesResetState. -/
def Obligations.FlagsRegister : Prop :=
  IsAt 0x1C#6 .rdFlags .wrFlags ∧ IgnoresWrites .wrFlags ∧
  ∀ (lane : BitVec 2) (s : State), ∃ w : Word32,
    exec (.rdFlags lane) s = .next { s with out := { s.out with rdata := w } } ∧
    w.getLsbD 0 = s.frame[0].getLsbD 3 ∧ w.getLsbD 1 = s.frame[0].getLsbD 2 ∧
    w.getLsbD 2 = s.frame[0].getLsbD 1 ∧ w.getLsbD 3 = s.frame[0].getLsbD 0 ∧
    w.getLsbD 4 = s.frame[10].getLsbD 0 ∧ w.getLsbD 5 = s.frame[11].getLsbD 1 ∧
    w.getLsbD 6 = s.frame[11].getLsbD 0 ∧ w.getLsbD 7 = false ∧
    w.getLsbD 8 = s.frame[9].getLsbD 2 ∧ w.getLsbD 9 = s.frame[9].getLsbD 3 ∧
    w.getLsbD 10 = s.frame[10].getLsbD 3 ∧ w.getLsbD 11 = s.frame[9].getLsbD 1 ∧
    w.getLsbD 12 = s.frame[10].getLsbD 1 ∧ w.extractLsb' 13 3 = 0#3 ∧
    w.getLsbD 16 = s.frame[11].getLsbD 3 ∧ w.getLsbD 17 = s.frame[11].getLsbD 2 ∧
    w.getLsbD 18 = s.frame[12].getLsbD 3 ∧ w.getLsbD 19 = s.frame[12].getLsbD 2 ∧
    w.getLsbD 20 = s.frame[12].getLsbD 1 ∧ w.getLsbD 21 = s.frame[10].getLsbD 2 ∧
    w.getLsbD 22 = s.frame[9].getLsbD 0 ∧ w.getLsbD 23 = s.frame[13].getLsbD 2 ∧
    w.getLsbD 24 = s.frame[12].getLsbD 0 ∧ w.getLsbD 25 = s.frame[13].getLsbD 3 ∧
    w.getLsbD 26 = s.frame[13].getLsbD 1 ∧ w.getLsbD 27 = s.frame[13].getLsbD 0 ∧
    w.extractLsb' 28 4 = 0#4

/-- ALIGN (10_state.md R40): bit i below 14 says that the marker of FRAME[i] is i + 1, bit 16 that all are, the other
bits are 0, and the reset view is 0; a write is ignored. -/
def Obligations.AlignRegister : Prop :=
  IsAt 0x20#6 .rdAlign .wrAlign ∧ IgnoresWrites .wrAlign ∧
  (∀ (lane : BitVec 2) (s : State), ∃ w : Word32,
    exec (.rdAlign lane) s = .next { s with out := { s.out with rdata := w } } ∧
    (∀ i : Fin 14, w.getLsbD i.val = decide ((s.frame[i]).extractLsb' 4 4 = BitVec.ofNat 4 (i.val + 1))) ∧
    w.extractLsb' 14 2 = 0#2 ∧
    (w.getLsbD 16 = true ↔ ∀ i : Fin 14, (s.frame[i]).extractLsb' 4 4 = BitVec.ofNat 4 (i.val + 1)) ∧
    w.extractLsb' 17 15 = 0#15) ∧
  ∀ (lane : BitVec 2) (b : Build), ∃ t : State,
    exec (.rdAlign lane) (State.resetOf b) = .next t ∧ t.out.rdata = 0#32

/-- FRAME0 to FRAME3 (10_state.md R41): FRAME packed little-endian, four bytes a register, the upper half of FRAME3 0,
all 0 at reset; a write is ignored. -/
def Obligations.FrameRegisters : Prop :=
  IsAt 0x24#6 .rdFrame0 .wrFrame0 ∧ IsAt 0x28#6 .rdFrame1 .wrFrame1 ∧
  IsAt 0x2C#6 .rdFrame2 .wrFrame2 ∧ IsAt 0x30#6 .rdFrame3 .wrFrame3 ∧
  IgnoresWrites .wrFrame0 ∧ IgnoresWrites .wrFrame1 ∧ IgnoresWrites .wrFrame2 ∧ IgnoresWrites .wrFrame3 ∧
  (∀ (lane : BitVec 2) (s : State), ∃ w0 w1 w2 w3 : Word32,
    exec (.rdFrame0 lane) s = .next { s with out := { s.out with rdata := w0 } } ∧
    exec (.rdFrame1 lane) s = .next { s with out := { s.out with rdata := w1 } } ∧
    exec (.rdFrame2 lane) s = .next { s with out := { s.out with rdata := w2 } } ∧
    exec (.rdFrame3 lane) s = .next { s with out := { s.out with rdata := w3 } } ∧
    (∀ j : Fin 4, w0.extractLsb' (8 * j.val) 8 = s.frame[j.val] ∧
      w1.extractLsb' (8 * j.val) 8 = s.frame[4 + j.val] ∧
      w2.extractLsb' (8 * j.val) 8 = s.frame[8 + j.val]) ∧
    w3.extractLsb' 0 8 = s.frame[12] ∧ w3.extractLsb' 8 8 = s.frame[13] ∧
    w3.extractLsb' 16 16 = 0#16) ∧
  ∀ (b : Build) (i : Fin 14), (State.resetOf b).frame[i] = 0#8

/-- CMD reads 0x00000000 (10_state.md R32). -/
def Obligations.CmdReadsZero : Prop :=
  ∀ (lane : BitVec 2) (s : State),
    exec (.rdCmd lane) s = .next { s with out := { s.out with rdata := 0#32 } }

/-- Offsets 0x34, 0x38 and 0x3C (10_state.md R42): a read returns 0, a write has no effect, neither sets IGN. -/
def Obligations.UnmappedOffsets : Prop :=
  IsAt 0x34#6 .rdUnmapped34 .wrUnmapped34 ∧ IsAt 0x38#6 .rdUnmapped38 .wrUnmapped38 ∧
  IsAt 0x3C#6 .rdUnmapped3C .wrUnmapped3C ∧
  ∀ (lane : BitVec 2) (v : Word32) (s : State),
    exec (.rdUnmapped34 lane) s = .next { s with out := { s.out with rdata := 0#32 } } ∧
    exec (.rdUnmapped38 lane) s = .next { s with out := { s.out with rdata := 0#32 } } ∧
    exec (.rdUnmapped3C lane) s = .next { s with out := { s.out with rdata := 0#32 } } ∧
    exec (.wrUnmapped34 lane v) s = .next s ∧ exec (.wrUnmapped38 lane v) s = .next s ∧
    exec (.wrUnmapped3C lane v) s = .next s

/-! ## Commands -/

/-- NOP changes nothing, whatever BUSY is and whatever the ignored bits are (40_dispatch.md R85). -/
def Obligations.NopChangesNothing : Prop :=
  ∀ (lane : BitVec 2) (rest : BitVec 30) (s : State), exec (.nop lane rest) s = .next s

/-- The reserved OP sets IGN and changes nothing else, whatever BUSY is (40_dispatch.md R86). -/
def Obligations.ReservedCommandSetsIgn : Prop :=
  ∀ (lane : BitVec 2) (rest : BitVec 30) (s : State),
    exec (.cmdReserved lane rest) s = .next { s with ign := true }

/-- SYNC with BUSY = 0 is accepted: BUSY 1, DONE 0, ERR NONE, CTX 0, a MARK phase of one byte with a fresh window, and
nothing else changes (40_dispatch.md R77, R79; 41_sync.md R88). -/
def Obligations.SyncAccepted : Prop :=
  ∀ (lane : BitVec 2) (rest : BitVec 30) (s : State), s.busy = false →
    exec (.sync lane rest) s = .next { s with
      busy := true, done := false, err := .none, ctx := .sync,
      phase := .mark, need := 1#4, cnt := 0#4, tmr := 0#32 }

/-- READ with BUSY = 0 and RETRY_LIMIT not 0 is accepted and starts its first attempt: VALID 0, ATTEMPT 1, FRAME all
zero, RXCNT 0, a CAP phase of 14 bytes with a fresh window (40_dispatch.md R77, R79; 43_read.md R116, R117). -/
def Obligations.ReadAccepted : Prop :=
  ∀ (lane : BitVec 2) (rest : BitVec 30) (s : State), s.busy = false → s.retryLimit ≠ 0#4 →
    exec (.read lane rest) s = .next { s with
      busy := true, done := false, err := .none, ctx := .read, valid := false, attempt := 1#4,
      frame := Vector.replicate 14 0#8, rxcnt := 0#4,
      phase := .cap, need := 14#4, cnt := 0#4, tmr := 0#32 }

/-- READ with BUSY = 0 and RETRY_LIMIT = 0 completes in its acceptance cycle with READ_FAILURE: no byte is consumed and
FRAME is not cleared (43_read.md R118). -/
def Obligations.ReadWithNoRetryBudgetFails : Prop :=
  ∀ (lane : BitVec 2) (rest : BitVec 30) (s : State), s.busy = false → s.retryLimit = 0#4 →
    exec (.read lane rest) s = .next { s with
      busy := false, done := true, err := .readFailure, ctx := .read, valid := false, attempt := 0#4,
      phase := .idle, need := 0#4, cnt := 0#4, tmr := 0#32 }

/-- With BUSY = 1, a SYNC, a READ, and a write to RETRY or TIMEOUT set IGN and change nothing else (40_dispatch.md
R78). -/
def Obligations.BusyWritesIgnored : Prop :=
  ∀ (lane : BitVec 2) (rest : BitVec 30) (v : Word32) (s : State), s.busy = true →
    exec (.sync lane rest) s = .next { s with ign := true } ∧
    exec (.read lane rest) s = .next { s with ign := true } ∧
    exec (.wrRetry lane v) s = .next { s with ign := true } ∧
    exec (.wrTimeout lane v) s = .next { s with ign := true }

/-! ## Stream bytes -/

/-- In a MARK phase a byte of position 0 or 15 records its position in MARKER and completes the command with
INVALID_MARKER, in either context, and consumes no further byte (41_sync.md R90). -/
def Obligations.InvalidMarkerBytes : Prop :=
  ∀ (d : Nibble) (s : State), s.phase = .mark →
    exec (.fbPos0 d) s = .next { s with
      marker := 0#4, busy := false, done := true, err := .invalidMarker,
      phase := .idle, need := 0#4, cnt := 0#4, tmr := 0#32 } ∧
    exec (.fbPos15 d) s = .next { s with
      marker := 15#4, busy := false, done := true, err := .invalidMarker,
      phase := .idle, need := 0#4, cnt := 0#4, tmr := 0#32 }

/-- In a MARK phase a byte of position 14 records 14 in MARKER and ends the synchronization (41_sync.md R91). -/
def Obligations.MarkerFourteenEndsSync : Prop :=
  ∀ (d : Nibble) (s : State), s.phase = .mark →
    exec (.fbPos14 d) s = .next (syncDone { s with marker := 14#4 })

/-- In a MARK phase a byte of position p in 1..13 records p in MARKER and begins a DISC phase of 14 - p bytes with a
fresh window; nothing else changes (41_sync.md R92). -/
def Obligations.MarkerBeginsDiscard : Prop :=
  ∀ (d : Nibble) (s : State), s.phase = .mark →
    let discards (p n : Nibble) : State :=
      { s with marker := p, phase := .disc, need := n, cnt := 0#4, tmr := 0#32 }
    exec (.fbPos1 d) s = .next (discards 1#4 13#4) ∧ exec (.fbPos2 d) s = .next (discards 2#4 12#4) ∧
    exec (.fbPos3 d) s = .next (discards 3#4 11#4) ∧ exec (.fbPos4 d) s = .next (discards 4#4 10#4) ∧
    exec (.fbPos5 d) s = .next (discards 5#4 9#4) ∧ exec (.fbPos6 d) s = .next (discards 6#4 8#4) ∧
    exec (.fbPos7 d) s = .next (discards 7#4 7#4) ∧ exec (.fbPos8 d) s = .next (discards 8#4 6#4) ∧
    exec (.fbPos9 d) s = .next (discards 9#4 5#4) ∧ exec (.fbPos10 d) s = .next (discards 10#4 4#4) ∧
    exec (.fbPos11 d) s = .next (discards 11#4 3#4) ∧ exec (.fbPos12 d) s = .next (discards 12#4 2#4) ∧
    exec (.fbPos13 d) s = .next (discards 13#4 1#4)

/-- SyncDone (41_sync.md R95) completes a SYNC with NONE; inside a READ it is NextAttempt (43_read.md R117): it starts
the next attempt while ATTEMPT is below RETRY_LIMIT, else completes with READ_FAILURE. -/
def Obligations.SyncDoneOutcomes : Prop :=
  ∀ s : State,
    (s.ctx = .sync → syncDone s = { s with
      busy := false, done := true, err := .none,
      phase := .idle, need := 0#4, cnt := 0#4, tmr := 0#32 }) ∧
    (s.ctx = .read → s.attempt.toNat < s.retryLimit.toNat → syncDone s = { s with
      attempt := s.attempt + 1#4, frame := Vector.replicate 14 0#8, rxcnt := 0#4,
      phase := .cap, need := 14#4, cnt := 0#4, tmr := 0#32 }) ∧
    (s.ctx = .read → s.retryLimit.toNat ≤ s.attempt.toNat → syncDone s = { s with
      busy := false, done := true, err := .readFailure,
      phase := .idle, need := 0#4, cnt := 0#4, tmr := 0#32 })

/-- In a DISC phase a byte of any class is discarded unexamined: the last one ends the synchronization, an earlier one
counts in CNT and the cycle in TMR, and nothing else changes (41_sync.md R93, 40_dispatch.md R81). -/
def Obligations.DiscardedBytes : Prop :=
  ∀ (p : Fin 16) (d : Nibble) (s : State), s.phase = .disc →
    (s.cnt.toNat + 1 = s.need.toNat → exec (fbInstr p d) s = .next (syncDone s)) ∧
    (s.cnt.toNat + 1 < s.need.toNat → exec (fbInstr p d) s = .next { s with
      cnt := s.cnt + 1#4, tmr := BitVec.ofNat 32 (min (s.tmr.toNat + 1) (2 ^ 32 - 1)) })

/-- In a CAP phase a byte of any class is stored at FRAME[CNT] and RXCNT is CNT + 1 (43_read.md R119). Before the
fourteenth, CNT and TMR count. The fourteenth completes the READ with VALID when every marker is its position (R120,
R121), and begins a MARK phase otherwise (R123). Nothing else changes. -/
def Obligations.CapturedBytes : Prop :=
  ∀ (p : Fin 16) (d : Nibble) (s : State), s.phase = .cap →
    let b : Byte := byteOf (BitVec.ofNat 4 p.val) d
    (∀ h : s.cnt.toNat < 13, exec (fbInstr p d) s = .next { s with
      frame := s.frame.set s.cnt.toNat b, rxcnt := s.cnt + 1#4, cnt := s.cnt + 1#4,
      tmr := BitVec.ofNat 32 (min (s.tmr.toNat + 1) (2 ^ 32 - 1)) }) ∧
    (s.cnt = 13#4 → (∀ i : Fin 14, pos (s.frame.set 13 b)[i] = BitVec.ofNat 4 (i.val + 1)) →
      exec (fbInstr p d) s = .next { s with
        frame := s.frame.set 13 b, rxcnt := 14#4, valid := true, busy := false, done := true, err := .none,
        phase := .idle, need := 0#4, cnt := 0#4, tmr := 0#32 }) ∧
    (s.cnt = 13#4 → (∃ i : Fin 14, pos (s.frame.set 13 b)[i] ≠ BitVec.ofNat 4 (i.val + 1)) →
      exec (fbInstr p d) s = .next { s with
        frame := s.frame.set 13 b, rxcnt := 14#4,
        phase := .mark, need := 1#4, cnt := 0#4, tmr := 0#32 })

/-! ## The decode logic -/

/-- Each row of the digit lookup table shows, in the byte of its cell, HB in bit 4 and its GLYPH code in bits 3 to 0;
LUT_X shows 0xF; nothing else changes (30_encoding.md R63, R64, R67). -/
def Obligations.LookupRowsShowTheirGlyph : Prop :=
  ∀ (k : Fin 4) (hb : Bool) (key : BitVec 7) (s : State),
    let shows (g : Nat) : State :=
      { s with out := { s.out with cells := s.out.cells.set k (BitVec.ofNat 8 ((if hb then 16 else 0) + g)) } }
    exec (.lut1 k hb) s = .next (shows 1) ∧ exec (.lut2 k hb) s = .next (shows 2) ∧
    exec (.lut3 k hb) s = .next (shows 3) ∧ exec (.lut4 k hb) s = .next (shows 4) ∧
    exec (.lut5 k hb) s = .next (shows 5) ∧ exec (.lut6 k hb) s = .next (shows 6) ∧
    exec (.lut7 k hb) s = .next (shows 7) ∧ exec (.lut8 k hb) s = .next (shows 8) ∧
    exec (.lut9 k hb) s = .next (shows 9) ∧ exec (.lut0 k hb) s = .next (shows 0) ∧
    exec (.lutL k hb) s = .next (shows 10) ∧ exec (.lutBlank k hb) s = .next (shows 11) ∧
    exec (.lutX k hb key) s = .next (shows 15)

/-- Lut(KEY) (42_frame_decode.md R104): the twelve listed keys and, for every other key, 0xF; 116 keys decode to 0xF
(30_encoding.md R64). -/
def Obligations.LookupTable : Prop :=
  lut 0x05#7 = 1#4 ∧ lut 0x5B#7 = 2#4 ∧ lut 0x1F#7 = 3#4 ∧ lut 0x27#7 = 4#4 ∧ lut 0x3E#7 = 5#4 ∧
  lut 0x7E#7 = 6#4 ∧ lut 0x15#7 = 7#4 ∧ lut 0x7F#7 = 8#4 ∧ lut 0x3F#7 = 9#4 ∧ lut 0x7D#7 = 0#4 ∧
  lut 0x68#7 = 10#4 ∧ lut 0x00#7 = 11#4 ∧
  (∀ key : BitVec 7, key ∉ [0x05#7, 0x5B#7, 0x1F#7, 0x27#7, 0x3E#7, 0x7E#7, 0x15#7, 0x7F#7, 0x3F#7, 0x7D#7,
    0x68#7, 0x00#7] → lut key = 15#4) ∧
  ((List.range 128).filter fun n => lut (BitVec.ofNat 7 n) = 15#4).length = 116

/-- DigitCell(k) (42_frame_decode.md R105): bits 7 to 5 are 0, bit 4 is A[3], bits 3 to 0 are Lut of the key with A[2:0]
above B[3:0], where A = FRAME[2k+1] and B = FRAME[2k+2]. -/
def Obligations.DigitCellRule : Prop :=
  ∀ (f : Frame) (k : Fin 4),
    (digitCell f k).extractLsb' 5 3 = 0#3 ∧
    (digitCell f k).getLsbD 4 = (f[2 * k.val + 1]).getLsbD 3 ∧
    (digitCell f k).extractLsb' 0 4 =
      lut (BitVec.ofNat 7 (16 * ((f[2 * k.val + 1]).toNat % 8) + (f[2 * k.val + 2]).toNat % 16))

/-- Running the digit pair of cell k that FRAME holds shows DigitCell(k) in that cell and changes nothing else
(42_frame_decode.md R104, R105): the rows of the table together are the lookup. -/
def Obligations.DigitPairsRunTheLookup : Prop :=
  ∀ (k : Fin 4) (s : State),
    runCode (.digitPair k (hbOf s.frame k) (keyOf s.frame k)) s =
      .next { s with out := { s.out with cells := s.out.cells.set k (digitCell s.frame k) } }

/-- Each row of the flag multiplexer drives four FLAGS bits from its DATA bits 3, 2, 1, 0 and leaves every other bit and
the rest of the state (30_encoding.md R68, R70). -/
def Obligations.FlagRowsDriveTheirBits : Prop :=
  ∀ (d : Nibble) (s : State),
    let drives (i : Instr) (n3 n2 n1 n0 : Nat) : Prop :=
      ∃ w : Word32, exec i s = .next { s with out := { s.out with flags := w } } ∧
        w.getLsbD n3 = d.getLsbD 3 ∧ w.getLsbD n2 = d.getLsbD 2 ∧ w.getLsbD n1 = d.getLsbD 1 ∧
        w.getLsbD n0 = d.getLsbD 0 ∧
        ∀ j : Nat, j ∉ [n3, n2, n1, n0] → w.getLsbD j = s.out.flags.getLsbD j
    drives (.flagsPos1 d) 0 1 2 3 ∧ drives (.flagsPos10 d) 9 8 11 22 ∧ drives (.flagsPos11 d) 10 21 12 4 ∧
    drives (.flagsPos12 d) 16 17 5 6 ∧ drives (.flagsPos13 d) 18 19 20 24 ∧
    drives (.flagsPos14 d) 25 23 26 27

/-- The source's subtractive walk records, for the low nibble of each flag byte, exactly the names whose FLAGS bits are
set (42_frame_decode.md R107). -/
def Obligations.SubtractiveWalkIsBitSelect : Prop :=
  ∀ f : Frame,
    let bits (ns : List Nat) : List Bool := ns.map fun n => (flagsWord f).getLsbD n
    walkNames f[0] = bits [0, 1, 2, 3] ∧ walkNames f[9] = bits [9, 8, 11, 22] ∧
    walkNames f[10] = bits [10, 21, 12, 4] ∧ walkNames f[11] = bits [16, 17, 5, 6] ∧
    walkNames f[12] = bits [18, 19, 20, 24] ∧ walkNames f[13] = bits [25, 23, 26, 27]

/-- DIGITS depends only on the low nibbles of FRAME[1] to FRAME[8], and FLAGS only on those of FRAME[0] and FRAME[9] to
FRAME[13] (42_frame_decode.md R110). -/
def Obligations.DigitsAndFlagsAreDisjoint : Prop :=
  ∀ f g : Frame,
    ((∀ i : Fin 14, 1 ≤ i.val → i.val ≤ 8 → low f[i] = low g[i]) → digitsWord f = digitsWord g) ∧
    ((∀ i : Fin 14, i.val = 0 ∨ 9 ≤ i.val → low f[i] = low g[i]) → flagsWord f = flagsWord g)

/-- ALIGNED is 1 exactly when the high nibble of every FRAME[i] is i + 1, whatever the low nibbles are
(42_frame_decode.md R102, R103). -/
def Obligations.AlignedMeansEveryMarkerMatches : Prop :=
  ∀ f : Frame, aligned f = true ↔ ∀ i : Fin 14, (f[i]).toNat / 16 = i.val + 1

/-! ## The phase engine -/

/-- A phase's cycle that finds a byte waiting consumes it, whatever the timer says, and runs its instruction; a cycle
that finds none before the timeout only counts in TMR (40_dispatch.md R81, R82). -/
def Obligations.WaitingByteBeatsTimeout : Prop :=
  ∀ s : State,
    (∀ (b : Byte) (rest : List Byte) (i : Instr), s.fifo = b :: rest → decode (.frameByte b) = .ok i →
      sequencerTurn s = exec i { s with fifo := rest }) ∧
    (s.fifo = [] → s.tmr.toNat < s.timeout.toNat →
      sequencerTurn s = .next { s with tmr := BitVec.ofNat 32 (s.tmr.toNat + 1) })

/-- With the FIFO empty and TMR at or past TIMEOUT, a MARK phase completes with NO_DATA and leaves MARKER (41_sync.md
R89), a DISC phase ends the synchronization (R94), and a CAP phase begins a MARK phase, FRAME and RXCNT kept
(43_read.md R122). -/
def Obligations.PhaseTimeouts : Prop :=
  ∀ s : State, s.fifo = [] → s.timeout.toNat ≤ s.tmr.toNat →
    (s.phase = .mark → sequencerTurn s = .next { s with
      busy := false, done := true, err := .noData,
      phase := .idle, need := 0#4, cnt := 0#4, tmr := 0#32 }) ∧
    (s.phase = .disc → sequencerTurn s = .next (syncDone s)) ∧
    (s.phase = .cap → sequencerTurn s = .next { s with
      phase := .mark, need := 1#4, cnt := 0#4, tmr := 0#32 })

/-! ## The step -/

/-- A cycle with rst = 0: the nets settle on the views of FRAME, the host's access runs as the instruction it decodes to,
the sequencer takes its turn if the phase at the start is not IDLE, and the byte source pushes (40_dispatch.md R74; the
order is the model's, log 5). -/
def Obligations.StepRunsTheHostAccess : Prop :=
  ∀ (s : State) (p : Pins) (rest : List Pins), s.inputs = p :: rest → p.rst = false →
    let s1 : State := { s with
      inputs := rest
      out := { rdata := 0#32, cells := Vector.ofFn (digitCell s.frame), flags := flagsWord s.frame } }
    let goesOn : State → Result := fun s2 =>
      andThen (if s.phase = .idle then .next s2 else sequencerTurn s2) fun s3 => .next (push p s3)
    (∀ (c : Code) (i : Instr), busCode p = some c → decode c = .ok i → step s = andThen (exec i s1) goesOn) ∧
    (busCode p = none → step s = goesOn s1)

/-- The decode logic of a cycle is ten instructions, the rows that the four digit pairs and the six flag nibbles of FRAME
decode to, run one after the other (42_frame_decode.md R98, R105, R108). -/
def Obligations.DecodeLogicRunsTenRows : Prop :=
  ∀ s : State, ∃ rows : List Instr, rows.length = 10 ∧
    (frameCodes s.frame).map decode = rows.map Except.ok ∧
    settle s = rows.foldl (fun r i => andThen r (exec i)) (.next (clearNets s))

/-- A cycle with rst = 1 gives RESET_STATE, ignores every other input, reads 0 on the bus and leaves irq 0, and the views
read after it are those of R150 (70_reset_and_hazards.md R150). -/
def Obligations.ResetCycleGivesResetState : Prop :=
  ∀ s : State, (nextPins s).1.rst = true → ∃ t : State, step s = .next t ∧
    t.retryLimit = 3#4 ∧ t.timeout.toNat = min (3 * s.build.fClkHz) (2 ^ 32 - 1) ∧ t.doneIe = false ∧
    t.busy = false ∧ t.done = false ∧ t.err = .none ∧ t.valid = false ∧ t.ign = false ∧ t.ovr = false ∧
    t.phase = .idle ∧ t.ctx = .sync ∧ t.need = 0#4 ∧ t.cnt = 0#4 ∧ t.tmr = 0#32 ∧ t.fifo = [] ∧
    (∀ i : Fin 14, t.frame[i] = 0#8) ∧ t.attempt = 0#4 ∧ t.rxcnt = 0#4 ∧ t.marker = 0#4 ∧
    t.out.rdata = 0#32 ∧ t.irq = false ∧
    digitsWord t.frame = 0x0B0B0B0B#32 ∧ flagsWord t.frame = 0#32 ∧ alignWord t.frame = 0#32 ∧
    frame0Word t.frame = 0#32 ∧ frame1Word t.frame = 0#32 ∧ frame2Word t.frame = 0#32 ∧
    frame3Word t.frame = 0#32 ∧ resultWord t = 0#32 ∧ statusWord t = 0#32

/-- A step, reset or not, keeps the build and takes one pin record: the next of `inputs`, or a free draw past its end.
The three fields are the model's own (logs 2, 3, 4 and 16). -/
def Obligations.EveryStepTakesOnePinRecord : Prop :=
  ∀ s t : State, step s = .next t → t.build = s.build ∧ t.inputs = s.inputs.drop 1 ∧
    t.draws = if s.inputs = [] then s.draws + 1 else s.draws

/-- Every step of every state answers a next state: an error never stops the clock (60_exceptions.md R128). -/
def Obligations.EveryStepAnswersNext : Prop :=
  ∀ s : State, ∃ t : State, step s = .next t

/-- Where BUSY = 1 exactly when PHASE is not IDLE, the step gives the state that the spec's own pseudocode gives, in the
spec's order of events and with its sticky merge (40_dispatch.md R74 to R81). -/
def Obligations.StepIsThePseudocodeCycle : Prop :=
  ∀ s : State, (s.busy = true ↔ s.phase ≠ .idle) →
    step s = .next (refCycle (nextPins s).1 (nextPins s).2)

/-- The invariant holds right after reset. -/
def Obligations.InvariantAtReset : Prop := Inv State.reset

/-- Every step keeps the invariant: the reachable combinations of the sequencer state, the budget of attempts, VALID only
with an aligned frame, the zero tail of FRAME, and the FIFO's bound (10_state.md R19, R25, R26, R27, R29; 43_read.md
R117, R126). -/
def Obligations.InvariantKeptByEveryStep : Prop :=
  ∀ s t : State, Inv s → step s = .next t → Inv t

/-- A cycle pops one byte when a phase runs and one waits, and then pushes the presented byte if there is room after the
pop; otherwise the byte is dropped and OVR is 1, whatever the host writes (20_memory.md R53). -/
def Obligations.PushAfterPop : Prop :=
  ∀ s t : State, (nextPins s).1.rst = false → step s = .next t →
    let p := (nextPins s).1
    let left := if s.phase = .idle then s.fifo else s.fifo.drop 1
    (p.rxValid = false → t.fifo = left) ∧
    (p.rxValid = true → left.length < s.build.fifoDepth → t.fifo = left ++ [p.rxData]) ∧
    (p.rxValid = true → s.build.fifoDepth ≤ left.length → t.fifo = left ∧ t.ovr = true)

/-- Without rst, BUSY falls only in a cycle that completes the command: DONE is 1 after it even if the host clears DONE in
the same cycle, and the sequencer is idle (60_exceptions.md R138, R140; 40_dispatch.md R76, R80). -/
def Obligations.BusyFallsOnlyWithDone : Prop :=
  ∀ s t : State, (nextPins s).1.rst = false → step s = .next t → s.busy = true → t.busy = false →
    t.done = true ∧ t.phase = .idle ∧ t.need = 0#4 ∧ t.cnt = 0#4 ∧ t.tmr = 0#32

/-- RETRY_LIMIT and TIMEOUT do not change while BUSY = 1 (70_reset_and_hazards.md R161). -/
def Obligations.ConfigurationFixedWhileBusy : Prop :=
  ∀ s t : State, (nextPins s).1.rst = false → step s = .next t → s.busy = true →
    t.retryLimit = s.retryLimit ∧ t.timeout = s.timeout

/-- A running SYNC does not disturb FRAME, VALID, ATTEMPT or RXCNT (41_sync.md R88, 70_reset_and_hazards.md R157). -/
def Obligations.SyncLeavesResults : Prop :=
  ∀ s t : State, Inv s → s.busy = true → s.ctx = .sync → (nextPins s).1.rst = false → step s = .next t →
    t.frame = s.frame ∧ t.valid = s.valid ∧ t.attempt = s.attempt ∧ t.rxcnt = s.rxcnt

/-- A host read changes nothing but bus_rdata: the cycle with the read and the same cycle without it give the same state
(20_memory.md R44, R48). -/
def Obligations.ReadsChangeNothing : Prop :=
  ∀ (s : State) (p : Pins) (rest : List Pins) (a : Addr), ∃ (t : State) (w : Word32),
    step { s with inputs := { p with busWr := false, busRd := false } :: rest } = .next t ∧
    step { s with inputs := { p with busWr := false, busRd := true, busAddr := a } :: rest } =
      .next { t with out := { t.out with rdata := w } }

/-- In IDLE, with no write and no reset, a cycle changes nothing but the FIFO and OVR, by the push
(60_exceptions.md R148). -/
def Obligations.IdleCycleOnlyPushes : Prop :=
  ∀ s t : State, s.phase = .idle → (nextPins s).1.rst = false → (nextPins s).1.busWr = false →
    step s = .next t →
    t = { (nextPins s).2 with fifo := t.fifo, ovr := t.ovr, out := t.out }

/-- No host access disturbs a running command (60_exceptions.md R149): two cycles that differ only in the host's access
give states that differ at most in DONE_IE, IGN, OVR and the output nets. -/
def Obligations.HostCannotDisturbACommand : Prop :=
  ∀ (s : State) (p q : Pins) (rest : List Pins), Inv s → s.busy = true → p.rst = false → q.rst = false →
    p.rxValid = q.rxValid → p.rxData = q.rxData →
    ∃ t u : State, step { s with inputs := p :: rest } = .next t ∧
      step { s with inputs := q :: rest } = .next u ∧
      u = { t with doneIe := u.doneIe, ign := u.ign, ovr := u.ovr, out := u.out }

/-- irq falls, without rst, only when the host clears DONE, clears DONE_IE or writes SYNC or READ; it rises only when a
command completes or the host sets DONE_IE (10_state.md R14, 60_exceptions.md R136, R137). -/
def Obligations.InterruptFollowsDone : Prop :=
  ∀ s t : State, Inv s → (nextPins s).1.rst = false → step s = .next t →
    let p := (nextPins s).1
    (s.irq = true → t.irq = false → p.busWr = true ∧
      ((slotOf p.busAddr = 1#4 ∧ p.busWdata.getLsbD 1 = true) ∨
       (slotOf p.busAddr = 2#4 ∧ p.busWdata.getLsbD 0 = false) ∨
       (slotOf p.busAddr = 0#4 ∧ (opOf p.busWdata = 1#2 ∨ opOf p.busWdata = 2#2)))) ∧
    (s.irq = false → t.irq = true →
      (s.busy = true ∧ t.busy = false) ∨
      (p.busWr = true ∧ slotOf p.busAddr = 2#4 ∧ p.busWdata.getLsbD 0 = true) ∨
      (p.busWr = true ∧ slotOf p.busAddr = 0#4 ∧ opOf p.busWdata = 2#2 ∧ s.retryLimit = 0#4))

/-! ## Runs of any length, whatever the inputs -/

/-- A running phase ends within (TIMEOUT - TMR) + (NEED - CNT) cycles, which from its first cycle is TIMEOUT + n
(40_dispatch.md R84). -/
def Obligations.PhasesEndInTime : Prop :=
  ∀ s : State, Inv s → s.phase ≠ .idle → ∃ (k : Nat) (t : State),
    k ≤ (s.timeout.toNat - s.tmr.toNat) + (s.need.toNat - s.cnt.toNat) ∧ RunsTo k s t ∧ t.phase ≠ s.phase

/-- A SYNC at the first cycle of its MARK phase completes, or is reset, within (TIMEOUT + 1) + (TIMEOUT + 13) cycles
(40_dispatch.md R84). -/
def Obligations.SyncCompletesInTime : Prop :=
  ∀ s : State, Inv s → s.ctx = .sync → s.phase = .mark → s.tmr = 0#32 → ∃ (k : Nat) (t : State),
    k ≤ (s.timeout.toNat + 1) + (s.timeout.toNat + 13) ∧ RunsTo k s t ∧ t.busy = false

/-- A READ at the first cycle of attempt ATTEMPT completes, or is reset, within the bound of its remaining attempts, which
from acceptance is RETRY_LIMIT x ((TIMEOUT + 14) + (TIMEOUT + 1) + (TIMEOUT + 13)) cycles (40_dispatch.md R84). -/
def Obligations.ReadCompletesInTime : Prop :=
  ∀ s : State, Inv s → s.phase = .cap → s.cnt = 0#4 → s.tmr = 0#32 → ∃ (k : Nat) (t : State),
    k ≤ (s.retryLimit.toNat - s.attempt.toNat + 1) *
        ((s.timeout.toNat + 14) + (s.timeout.toNat + 1) + (s.timeout.toNat + 13)) ∧
    RunsTo k s t ∧ t.busy = false

/-- A SYNC whose marker byte, of position p in 1..13, and the 14 - p bytes after it are waiting completes with NONE in
exactly 1 + (14 - p) cycles, consumes exactly those bytes and leaves the rest of the stream in order, whatever the host
does and the byte source presents meanwhile (41_sync.md R97, 70_reset_and_hazards.md R163). -/
def Obligations.SyncOfWaitingBytes : Prop :=
  ∀ (s : State) (ps more : List Pins) (m : Byte) (ds rest : List Byte),
    Inv s → s.ctx = .sync → s.phase = .mark → s.inputs = ps ++ more → (∀ p ∈ ps, p.rst = false) →
    s.fifo = m :: (ds ++ rest) → 1 ≤ (pos m).toNat → (pos m).toNat ≤ 13 →
    ds.length = 14 - (pos m).toNat → ps.length = 15 - (pos m).toNat →
    (∀ k < ps.length, ∃ t : State, RunsTo k s t ∧ t.busy = true) ∧
    ∃ (t : State) (pushed : List Byte), RunsTo ps.length s t ∧ t.busy = false ∧ t.done = true ∧
      t.err = .none ∧ t.marker = pos m ∧ t.fifo = rest ++ pushed ∧ t.inputs = more

/-- A READ at the start of an attempt whose fourteen aligned bytes are waiting completes with NONE in exactly 14 cycles:
VALID is 1, FRAME holds the bytes, ATTEMPT is unchanged, RXCNT is 14, and the rest of the stream is left in order
(43_read.md R121, R127; 70_reset_and_hazards.md R163). -/
def Obligations.ReadOfAWaitingFrame : Prop :=
  ∀ (s : State) (ps more : List Pins) (bs rest : List Byte),
    Inv s → s.phase = .cap → s.cnt = 0#4 → s.inputs = ps ++ more → (∀ p ∈ ps, p.rst = false) →
    ps.length = 14 → s.fifo = bs ++ rest → bs.length = 14 →
    (∀ i < 14, pos (bs.getD i 0#8) = BitVec.ofNat 4 (i + 1)) →
    (∀ k < 14, ∃ t : State, RunsTo k s t ∧ t.busy = true) ∧
    ∃ (t : State) (pushed : List Byte), RunsTo 14 s t ∧ t.busy = false ∧ t.done = true ∧ t.err = .none ∧
      t.valid = true ∧ t.frame.toList = bs ∧ t.attempt = s.attempt ∧ t.rxcnt = 14#4 ∧
      t.fifo = rest ++ pushed ∧ t.inputs = more
end

