-- ==== Sys2Proof/Laws/Decode.lean ====
section
/-! SUPPORT. The bit fields: taking a field from a word built of fields gives the field, and building the word from
its fields gives the word. -/

namespace Sys2Proof

@[simp] theorem pos_byteOf (p d : Nibble) : pos (byteOf p d) = p := by
  revert p d; decide

@[simp] theorem low_byteOf (p d : Nibble) : low (byteOf p d) = d := by
  revert p d; decide

@[simp] theorem byteOf_pos_low (b : Byte) : byteOf (pos b) (low b) = b := by
  revert b; decide

@[simp] theorem slotOf_addrOf (slot : BitVec 4) (lane : BitVec 2) : slotOf (addrOf slot lane) = slot := by
  revert slot lane; decide

@[simp] theorem laneOf_addrOf (slot : BitVec 4) (lane : BitVec 2) : laneOf (addrOf slot lane) = lane := by
  revert slot lane; decide

@[simp] theorem addrOf_slotOf_laneOf (a : Addr) : addrOf (slotOf a) (laneOf a) = a := by
  revert a; decide

/-- The bits of a command word: OP below, the ignored bits above (30_encoding.md R57). -/
theorem getLsbD_cmdWordOf (rest : BitVec 30) (op : BitVec 2) (i : Nat) :
    (cmdWordOf rest op).getLsbD i = if i < 2 then op.getLsbD i else rest.getLsbD (i - 2) :=
by
  simp only [cmdWordOf, BitVec.getLsbD_cast, BitVec.getLsbD_append]

@[simp] theorem opOf_cmdWordOf (rest : BitVec 30) (op : BitVec 2) : opOf (cmdWordOf rest op) = op := by
  apply BitVec.eq_of_getLsbD_eq
  intro i hi
  simp [opOf, getLsbD_cmdWordOf, hi]

@[simp] theorem restOf_cmdWordOf (rest : BitVec 30) (op : BitVec 2) :
    restOf (cmdWordOf rest op) = rest := by
  apply BitVec.eq_of_getLsbD_eq
  intro i hi
  simp [restOf, getLsbD_cmdWordOf, hi, show ¬ (2 + i < 2) by omega]

@[simp] theorem cmdWordOf_restOf_opOf (v : Word32) : cmdWordOf (restOf v) (opOf v) = v := by
  apply BitVec.eq_of_getLsbD_eq
  intro i hi
  rw [getLsbD_cmdWordOf]
  split
  · simp_all [opOf]
  · have h : 2 + (i - 2) = i := by omega
    simp [restOf, h, show i - 2 < 30 by omega]

/-- The table's mask 0x00000003 selects OP (30_encoding.md R57). -/
theorem toNat_and_three (v : Word32) : v.toNat &&& 0x3 = (opOf v).toNat := by
  rw [Nat.and_two_pow_sub_one_eq_mod v.toNat 2]
  simp [opOf]

/-- A command word under the table's mask 0x00000003 is its OP (30_encoding.md R57). -/
theorem cmdWordOf_toNat_and (rest : BitVec 30) (op : BitVec 2) :
    (cmdWordOf rest op).toNat &&& 0x3 = op.toNat := by
  rw [toNat_and_three, opOf_cmdWordOf]

/-- The table's mask 0x3C selects the slot (30_encoding.md R58). -/
theorem addrOf_toNat_and (slot : BitVec 4) (lane : BitVec 2) :
    (addrOf slot lane).toNat &&& 0x3C = 4 * slot.toNat := by
  revert slot lane; decide

/-- The table's mask 0x7F selects the whole KEY (30_encoding.md R62). -/
theorem key_toNat_and (key : BitVec 7) : key.toNat &&& 0x7F = key.toNat := by
  revert key; decide

/-- The table's mask 0xF0 selects the position marker (30_encoding.md R59). -/
theorem byteOf_toNat_and (p d : Nibble) : (byteOf p d).toNat &&& 0xF0 = 16 * p.toNat := by
  revert p d; decide

/-- A position of the flag multiplexer decodes (30_encoding.md R68). -/
theorem decodeFlag_ok {b : Byte} {i : Instr} (h : decodeFlag b = .ok i) :
    (pos b).toNat ∈ [1, 10, 11, 12, 13, 14] := by
  unfold decodeFlag at h
  split at h <;> simp_all

end Sys2Proof
end

