-- ==== Sys2Proof/Laws/State.lean ====
section
/-! SUPPORT. One lemma per field per named update of the state, true by unfolding, for simp. -/

namespace Sys2Proof.Machine

variable (s : State)

/-! ## driveRead -/

@[simp] theorem driveRead_retryLimit (w : Word32) : (driveRead w s).retryLimit = s.retryLimit := rfl
@[simp] theorem driveRead_timeout (w : Word32) : (driveRead w s).timeout = s.timeout := rfl
@[simp] theorem driveRead_doneIe (w : Word32) : (driveRead w s).doneIe = s.doneIe := rfl
@[simp] theorem driveRead_busy (w : Word32) : (driveRead w s).busy = s.busy := rfl
@[simp] theorem driveRead_done (w : Word32) : (driveRead w s).done = s.done := rfl
@[simp] theorem driveRead_err (w : Word32) : (driveRead w s).err = s.err := rfl
@[simp] theorem driveRead_valid (w : Word32) : (driveRead w s).valid = s.valid := rfl
@[simp] theorem driveRead_ign (w : Word32) : (driveRead w s).ign = s.ign := rfl
@[simp] theorem driveRead_ovr (w : Word32) : (driveRead w s).ovr = s.ovr := rfl
@[simp] theorem driveRead_phase (w : Word32) : (driveRead w s).phase = s.phase := rfl
@[simp] theorem driveRead_ctx (w : Word32) : (driveRead w s).ctx = s.ctx := rfl
@[simp] theorem driveRead_need (w : Word32) : (driveRead w s).need = s.need := rfl
@[simp] theorem driveRead_cnt (w : Word32) : (driveRead w s).cnt = s.cnt := rfl
@[simp] theorem driveRead_tmr (w : Word32) : (driveRead w s).tmr = s.tmr := rfl
@[simp] theorem driveRead_fifo (w : Word32) : (driveRead w s).fifo = s.fifo := rfl
@[simp] theorem driveRead_frame (w : Word32) : (driveRead w s).frame = s.frame := rfl
@[simp] theorem driveRead_attempt (w : Word32) : (driveRead w s).attempt = s.attempt := rfl
@[simp] theorem driveRead_rxcnt (w : Word32) : (driveRead w s).rxcnt = s.rxcnt := rfl
@[simp] theorem driveRead_marker (w : Word32) : (driveRead w s).marker = s.marker := rfl
@[simp] theorem driveRead_build (w : Word32) : (driveRead w s).build = s.build := rfl
@[simp] theorem driveRead_inputs (w : Word32) : (driveRead w s).inputs = s.inputs := rfl
@[simp] theorem driveRead_draws (w : Word32) : (driveRead w s).draws = s.draws := rfl
@[simp] theorem driveRead_out (w : Word32) : (driveRead w s).out = { s.out with rdata := w } := rfl

/-! ## clearNets -/

@[simp] theorem clearNets_retryLimit : (clearNets s).retryLimit = s.retryLimit := rfl
@[simp] theorem clearNets_timeout : (clearNets s).timeout = s.timeout := rfl
@[simp] theorem clearNets_doneIe : (clearNets s).doneIe = s.doneIe := rfl
@[simp] theorem clearNets_busy : (clearNets s).busy = s.busy := rfl
@[simp] theorem clearNets_done : (clearNets s).done = s.done := rfl
@[simp] theorem clearNets_err : (clearNets s).err = s.err := rfl
@[simp] theorem clearNets_valid : (clearNets s).valid = s.valid := rfl
@[simp] theorem clearNets_ign : (clearNets s).ign = s.ign := rfl
@[simp] theorem clearNets_ovr : (clearNets s).ovr = s.ovr := rfl
@[simp] theorem clearNets_phase : (clearNets s).phase = s.phase := rfl
@[simp] theorem clearNets_ctx : (clearNets s).ctx = s.ctx := rfl
@[simp] theorem clearNets_need : (clearNets s).need = s.need := rfl
@[simp] theorem clearNets_cnt : (clearNets s).cnt = s.cnt := rfl
@[simp] theorem clearNets_tmr : (clearNets s).tmr = s.tmr := rfl
@[simp] theorem clearNets_fifo : (clearNets s).fifo = s.fifo := rfl
@[simp] theorem clearNets_frame : (clearNets s).frame = s.frame := rfl
@[simp] theorem clearNets_attempt : (clearNets s).attempt = s.attempt := rfl
@[simp] theorem clearNets_rxcnt : (clearNets s).rxcnt = s.rxcnt := rfl
@[simp] theorem clearNets_marker : (clearNets s).marker = s.marker := rfl
@[simp] theorem clearNets_build : (clearNets s).build = s.build := rfl
@[simp] theorem clearNets_inputs : (clearNets s).inputs = s.inputs := rfl
@[simp] theorem clearNets_draws : (clearNets s).draws = s.draws := rfl
@[simp] theorem clearNets_out : (clearNets s).out = { s.out with rdata := 0#32, flags := 0#32 } := rfl

/-! ## driveCell -/

@[simp] theorem driveCell_retryLimit (k : Fin 4) (hb : Bool) (g : Nibble) : (driveCell k hb g s).retryLimit = s.retryLimit := rfl
@[simp] theorem driveCell_timeout (k : Fin 4) (hb : Bool) (g : Nibble) : (driveCell k hb g s).timeout = s.timeout := rfl
@[simp] theorem driveCell_doneIe (k : Fin 4) (hb : Bool) (g : Nibble) : (driveCell k hb g s).doneIe = s.doneIe := rfl
@[simp] theorem driveCell_busy (k : Fin 4) (hb : Bool) (g : Nibble) : (driveCell k hb g s).busy = s.busy := rfl
@[simp] theorem driveCell_done (k : Fin 4) (hb : Bool) (g : Nibble) : (driveCell k hb g s).done = s.done := rfl
@[simp] theorem driveCell_err (k : Fin 4) (hb : Bool) (g : Nibble) : (driveCell k hb g s).err = s.err := rfl
@[simp] theorem driveCell_valid (k : Fin 4) (hb : Bool) (g : Nibble) : (driveCell k hb g s).valid = s.valid := rfl
@[simp] theorem driveCell_ign (k : Fin 4) (hb : Bool) (g : Nibble) : (driveCell k hb g s).ign = s.ign := rfl
@[simp] theorem driveCell_ovr (k : Fin 4) (hb : Bool) (g : Nibble) : (driveCell k hb g s).ovr = s.ovr := rfl
@[simp] theorem driveCell_phase (k : Fin 4) (hb : Bool) (g : Nibble) : (driveCell k hb g s).phase = s.phase := rfl
@[simp] theorem driveCell_ctx (k : Fin 4) (hb : Bool) (g : Nibble) : (driveCell k hb g s).ctx = s.ctx := rfl
@[simp] theorem driveCell_need (k : Fin 4) (hb : Bool) (g : Nibble) : (driveCell k hb g s).need = s.need := rfl
@[simp] theorem driveCell_cnt (k : Fin 4) (hb : Bool) (g : Nibble) : (driveCell k hb g s).cnt = s.cnt := rfl
@[simp] theorem driveCell_tmr (k : Fin 4) (hb : Bool) (g : Nibble) : (driveCell k hb g s).tmr = s.tmr := rfl
@[simp] theorem driveCell_fifo (k : Fin 4) (hb : Bool) (g : Nibble) : (driveCell k hb g s).fifo = s.fifo := rfl
@[simp] theorem driveCell_frame (k : Fin 4) (hb : Bool) (g : Nibble) : (driveCell k hb g s).frame = s.frame := rfl
@[simp] theorem driveCell_attempt (k : Fin 4) (hb : Bool) (g : Nibble) : (driveCell k hb g s).attempt = s.attempt := rfl
@[simp] theorem driveCell_rxcnt (k : Fin 4) (hb : Bool) (g : Nibble) : (driveCell k hb g s).rxcnt = s.rxcnt := rfl
@[simp] theorem driveCell_marker (k : Fin 4) (hb : Bool) (g : Nibble) : (driveCell k hb g s).marker = s.marker := rfl
@[simp] theorem driveCell_build (k : Fin 4) (hb : Bool) (g : Nibble) : (driveCell k hb g s).build = s.build := rfl
@[simp] theorem driveCell_inputs (k : Fin 4) (hb : Bool) (g : Nibble) : (driveCell k hb g s).inputs = s.inputs := rfl
@[simp] theorem driveCell_draws (k : Fin 4) (hb : Bool) (g : Nibble) : (driveCell k hb g s).draws = s.draws := rfl
@[simp] theorem driveCell_out (k : Fin 4) (hb : Bool) (g : Nibble) : (driveCell k hb g s).out = { s.out with cells := s.out.cells.set k (cellCode hb g) } := rfl

/-! ## driveFlags -/

@[simp] theorem driveFlags_retryLimit (a b c e : Nat) (d : Nibble) : (driveFlags a b c e d s).retryLimit = s.retryLimit := rfl
@[simp] theorem driveFlags_timeout (a b c e : Nat) (d : Nibble) : (driveFlags a b c e d s).timeout = s.timeout := rfl
@[simp] theorem driveFlags_doneIe (a b c e : Nat) (d : Nibble) : (driveFlags a b c e d s).doneIe = s.doneIe := rfl
@[simp] theorem driveFlags_busy (a b c e : Nat) (d : Nibble) : (driveFlags a b c e d s).busy = s.busy := rfl
@[simp] theorem driveFlags_done (a b c e : Nat) (d : Nibble) : (driveFlags a b c e d s).done = s.done := rfl
@[simp] theorem driveFlags_err (a b c e : Nat) (d : Nibble) : (driveFlags a b c e d s).err = s.err := rfl
@[simp] theorem driveFlags_valid (a b c e : Nat) (d : Nibble) : (driveFlags a b c e d s).valid = s.valid := rfl
@[simp] theorem driveFlags_ign (a b c e : Nat) (d : Nibble) : (driveFlags a b c e d s).ign = s.ign := rfl
@[simp] theorem driveFlags_ovr (a b c e : Nat) (d : Nibble) : (driveFlags a b c e d s).ovr = s.ovr := rfl
@[simp] theorem driveFlags_phase (a b c e : Nat) (d : Nibble) : (driveFlags a b c e d s).phase = s.phase := rfl
@[simp] theorem driveFlags_ctx (a b c e : Nat) (d : Nibble) : (driveFlags a b c e d s).ctx = s.ctx := rfl
@[simp] theorem driveFlags_need (a b c e : Nat) (d : Nibble) : (driveFlags a b c e d s).need = s.need := rfl
@[simp] theorem driveFlags_cnt (a b c e : Nat) (d : Nibble) : (driveFlags a b c e d s).cnt = s.cnt := rfl
@[simp] theorem driveFlags_tmr (a b c e : Nat) (d : Nibble) : (driveFlags a b c e d s).tmr = s.tmr := rfl
@[simp] theorem driveFlags_fifo (a b c e : Nat) (d : Nibble) : (driveFlags a b c e d s).fifo = s.fifo := rfl
@[simp] theorem driveFlags_frame (a b c e : Nat) (d : Nibble) : (driveFlags a b c e d s).frame = s.frame := rfl
@[simp] theorem driveFlags_attempt (a b c e : Nat) (d : Nibble) : (driveFlags a b c e d s).attempt = s.attempt := rfl
@[simp] theorem driveFlags_rxcnt (a b c e : Nat) (d : Nibble) : (driveFlags a b c e d s).rxcnt = s.rxcnt := rfl
@[simp] theorem driveFlags_marker (a b c e : Nat) (d : Nibble) : (driveFlags a b c e d s).marker = s.marker := rfl
@[simp] theorem driveFlags_build (a b c e : Nat) (d : Nibble) : (driveFlags a b c e d s).build = s.build := rfl
@[simp] theorem driveFlags_inputs (a b c e : Nat) (d : Nibble) : (driveFlags a b c e d s).inputs = s.inputs := rfl
@[simp] theorem driveFlags_draws (a b c e : Nat) (d : Nibble) : (driveFlags a b c e d s).draws = s.draws := rfl
@[simp] theorem driveFlags_out (a b c e : Nat) (d : Nibble) : (driveFlags a b c e d s).out = { s.out with flags := putBit a (d.getLsbD 3) (putBit b (d.getLsbD 2) (putBit c (d.getLsbD 1)
      (putBit e (d.getLsbD 0) s.out.flags))) } := rfl

/-! ## setIgn -/

@[simp] theorem setIgn_retryLimit : (setIgn s).retryLimit = s.retryLimit := rfl
@[simp] theorem setIgn_timeout : (setIgn s).timeout = s.timeout := rfl
@[simp] theorem setIgn_doneIe : (setIgn s).doneIe = s.doneIe := rfl
@[simp] theorem setIgn_busy : (setIgn s).busy = s.busy := rfl
@[simp] theorem setIgn_done : (setIgn s).done = s.done := rfl
@[simp] theorem setIgn_err : (setIgn s).err = s.err := rfl
@[simp] theorem setIgn_valid : (setIgn s).valid = s.valid := rfl
@[simp] theorem setIgn_ign : (setIgn s).ign = true := rfl
@[simp] theorem setIgn_ovr : (setIgn s).ovr = s.ovr := rfl
@[simp] theorem setIgn_phase : (setIgn s).phase = s.phase := rfl
@[simp] theorem setIgn_ctx : (setIgn s).ctx = s.ctx := rfl
@[simp] theorem setIgn_need : (setIgn s).need = s.need := rfl
@[simp] theorem setIgn_cnt : (setIgn s).cnt = s.cnt := rfl
@[simp] theorem setIgn_tmr : (setIgn s).tmr = s.tmr := rfl
@[simp] theorem setIgn_fifo : (setIgn s).fifo = s.fifo := rfl
@[simp] theorem setIgn_frame : (setIgn s).frame = s.frame := rfl
@[simp] theorem setIgn_attempt : (setIgn s).attempt = s.attempt := rfl
@[simp] theorem setIgn_rxcnt : (setIgn s).rxcnt = s.rxcnt := rfl
@[simp] theorem setIgn_marker : (setIgn s).marker = s.marker := rfl
@[simp] theorem setIgn_build : (setIgn s).build = s.build := rfl
@[simp] theorem setIgn_inputs : (setIgn s).inputs = s.inputs := rfl
@[simp] theorem setIgn_draws : (setIgn s).draws = s.draws := rfl
@[simp] theorem setIgn_out : (setIgn s).out = s.out := rfl

/-! ## setOvr -/

@[simp] theorem setOvr_retryLimit : (setOvr s).retryLimit = s.retryLimit := rfl
@[simp] theorem setOvr_timeout : (setOvr s).timeout = s.timeout := rfl
@[simp] theorem setOvr_doneIe : (setOvr s).doneIe = s.doneIe := rfl
@[simp] theorem setOvr_busy : (setOvr s).busy = s.busy := rfl
@[simp] theorem setOvr_done : (setOvr s).done = s.done := rfl
@[simp] theorem setOvr_err : (setOvr s).err = s.err := rfl
@[simp] theorem setOvr_valid : (setOvr s).valid = s.valid := rfl
@[simp] theorem setOvr_ign : (setOvr s).ign = s.ign := rfl
@[simp] theorem setOvr_ovr : (setOvr s).ovr = true := rfl
@[simp] theorem setOvr_phase : (setOvr s).phase = s.phase := rfl
@[simp] theorem setOvr_ctx : (setOvr s).ctx = s.ctx := rfl
@[simp] theorem setOvr_need : (setOvr s).need = s.need := rfl
@[simp] theorem setOvr_cnt : (setOvr s).cnt = s.cnt := rfl
@[simp] theorem setOvr_tmr : (setOvr s).tmr = s.tmr := rfl
@[simp] theorem setOvr_fifo : (setOvr s).fifo = s.fifo := rfl
@[simp] theorem setOvr_frame : (setOvr s).frame = s.frame := rfl
@[simp] theorem setOvr_attempt : (setOvr s).attempt = s.attempt := rfl
@[simp] theorem setOvr_rxcnt : (setOvr s).rxcnt = s.rxcnt := rfl
@[simp] theorem setOvr_marker : (setOvr s).marker = s.marker := rfl
@[simp] theorem setOvr_build : (setOvr s).build = s.build := rfl
@[simp] theorem setOvr_inputs : (setOvr s).inputs = s.inputs := rfl
@[simp] theorem setOvr_draws : (setOvr s).draws = s.draws := rfl
@[simp] theorem setOvr_out : (setOvr s).out = s.out := rfl

/-! ## clearSticky -/

@[simp] theorem clearSticky_retryLimit (x y z : Bool) : (clearSticky x y z s).retryLimit = s.retryLimit := rfl
@[simp] theorem clearSticky_timeout (x y z : Bool) : (clearSticky x y z s).timeout = s.timeout := rfl
@[simp] theorem clearSticky_doneIe (x y z : Bool) : (clearSticky x y z s).doneIe = s.doneIe := rfl
@[simp] theorem clearSticky_busy (x y z : Bool) : (clearSticky x y z s).busy = s.busy := rfl
@[simp] theorem clearSticky_done (x y z : Bool) : (clearSticky x y z s).done = (s.done && !x) := rfl
@[simp] theorem clearSticky_err (x y z : Bool) : (clearSticky x y z s).err = s.err := rfl
@[simp] theorem clearSticky_valid (x y z : Bool) : (clearSticky x y z s).valid = s.valid := rfl
@[simp] theorem clearSticky_ign (x y z : Bool) : (clearSticky x y z s).ign = (s.ign && !y) := rfl
@[simp] theorem clearSticky_ovr (x y z : Bool) : (clearSticky x y z s).ovr = (s.ovr && !z) := rfl
@[simp] theorem clearSticky_phase (x y z : Bool) : (clearSticky x y z s).phase = s.phase := rfl
@[simp] theorem clearSticky_ctx (x y z : Bool) : (clearSticky x y z s).ctx = s.ctx := rfl
@[simp] theorem clearSticky_need (x y z : Bool) : (clearSticky x y z s).need = s.need := rfl
@[simp] theorem clearSticky_cnt (x y z : Bool) : (clearSticky x y z s).cnt = s.cnt := rfl
@[simp] theorem clearSticky_tmr (x y z : Bool) : (clearSticky x y z s).tmr = s.tmr := rfl
@[simp] theorem clearSticky_fifo (x y z : Bool) : (clearSticky x y z s).fifo = s.fifo := rfl
@[simp] theorem clearSticky_frame (x y z : Bool) : (clearSticky x y z s).frame = s.frame := rfl
@[simp] theorem clearSticky_attempt (x y z : Bool) : (clearSticky x y z s).attempt = s.attempt := rfl
@[simp] theorem clearSticky_rxcnt (x y z : Bool) : (clearSticky x y z s).rxcnt = s.rxcnt := rfl
@[simp] theorem clearSticky_marker (x y z : Bool) : (clearSticky x y z s).marker = s.marker := rfl
@[simp] theorem clearSticky_build (x y z : Bool) : (clearSticky x y z s).build = s.build := rfl
@[simp] theorem clearSticky_inputs (x y z : Bool) : (clearSticky x y z s).inputs = s.inputs := rfl
@[simp] theorem clearSticky_draws (x y z : Bool) : (clearSticky x y z s).draws = s.draws := rfl
@[simp] theorem clearSticky_out (x y z : Bool) : (clearSticky x y z s).out = s.out := rfl

/-! ## beginPhase -/

@[simp] theorem beginPhase_retryLimit (ph : Phase) (n : Nibble) : (beginPhase ph n s).retryLimit = s.retryLimit := rfl
@[simp] theorem beginPhase_timeout (ph : Phase) (n : Nibble) : (beginPhase ph n s).timeout = s.timeout := rfl
@[simp] theorem beginPhase_doneIe (ph : Phase) (n : Nibble) : (beginPhase ph n s).doneIe = s.doneIe := rfl
@[simp] theorem beginPhase_busy (ph : Phase) (n : Nibble) : (beginPhase ph n s).busy = s.busy := rfl
@[simp] theorem beginPhase_done (ph : Phase) (n : Nibble) : (beginPhase ph n s).done = s.done := rfl
@[simp] theorem beginPhase_err (ph : Phase) (n : Nibble) : (beginPhase ph n s).err = s.err := rfl
@[simp] theorem beginPhase_valid (ph : Phase) (n : Nibble) : (beginPhase ph n s).valid = s.valid := rfl
@[simp] theorem beginPhase_ign (ph : Phase) (n : Nibble) : (beginPhase ph n s).ign = s.ign := rfl
@[simp] theorem beginPhase_ovr (ph : Phase) (n : Nibble) : (beginPhase ph n s).ovr = s.ovr := rfl
@[simp] theorem beginPhase_phase (ph : Phase) (n : Nibble) : (beginPhase ph n s).phase = ph := rfl
@[simp] theorem beginPhase_ctx (ph : Phase) (n : Nibble) : (beginPhase ph n s).ctx = s.ctx := rfl
@[simp] theorem beginPhase_need (ph : Phase) (n : Nibble) : (beginPhase ph n s).need = n := rfl
@[simp] theorem beginPhase_cnt (ph : Phase) (n : Nibble) : (beginPhase ph n s).cnt = 0#4 := rfl
@[simp] theorem beginPhase_tmr (ph : Phase) (n : Nibble) : (beginPhase ph n s).tmr = 0#32 := rfl
@[simp] theorem beginPhase_fifo (ph : Phase) (n : Nibble) : (beginPhase ph n s).fifo = s.fifo := rfl
@[simp] theorem beginPhase_frame (ph : Phase) (n : Nibble) : (beginPhase ph n s).frame = s.frame := rfl
@[simp] theorem beginPhase_attempt (ph : Phase) (n : Nibble) : (beginPhase ph n s).attempt = s.attempt := rfl
@[simp] theorem beginPhase_rxcnt (ph : Phase) (n : Nibble) : (beginPhase ph n s).rxcnt = s.rxcnt := rfl
@[simp] theorem beginPhase_marker (ph : Phase) (n : Nibble) : (beginPhase ph n s).marker = s.marker := rfl
@[simp] theorem beginPhase_build (ph : Phase) (n : Nibble) : (beginPhase ph n s).build = s.build := rfl
@[simp] theorem beginPhase_inputs (ph : Phase) (n : Nibble) : (beginPhase ph n s).inputs = s.inputs := rfl
@[simp] theorem beginPhase_draws (ph : Phase) (n : Nibble) : (beginPhase ph n s).draws = s.draws := rfl
@[simp] theorem beginPhase_out (ph : Phase) (n : Nibble) : (beginPhase ph n s).out = s.out := rfl

/-! ## complete -/

@[simp] theorem complete_retryLimit (e : Err) : (complete e s).retryLimit = s.retryLimit := rfl
@[simp] theorem complete_timeout (e : Err) : (complete e s).timeout = s.timeout := rfl
@[simp] theorem complete_doneIe (e : Err) : (complete e s).doneIe = s.doneIe := rfl
@[simp] theorem complete_busy (e : Err) : (complete e s).busy = false := rfl
@[simp] theorem complete_done (e : Err) : (complete e s).done = true := rfl
@[simp] theorem complete_err (e : Err) : (complete e s).err = e := rfl
@[simp] theorem complete_valid (e : Err) : (complete e s).valid = s.valid := rfl
@[simp] theorem complete_ign (e : Err) : (complete e s).ign = s.ign := rfl
@[simp] theorem complete_ovr (e : Err) : (complete e s).ovr = s.ovr := rfl
@[simp] theorem complete_phase (e : Err) : (complete e s).phase = .idle := rfl
@[simp] theorem complete_ctx (e : Err) : (complete e s).ctx = s.ctx := rfl
@[simp] theorem complete_need (e : Err) : (complete e s).need = 0#4 := rfl
@[simp] theorem complete_cnt (e : Err) : (complete e s).cnt = 0#4 := rfl
@[simp] theorem complete_tmr (e : Err) : (complete e s).tmr = 0#32 := rfl
@[simp] theorem complete_fifo (e : Err) : (complete e s).fifo = s.fifo := rfl
@[simp] theorem complete_frame (e : Err) : (complete e s).frame = s.frame := rfl
@[simp] theorem complete_attempt (e : Err) : (complete e s).attempt = s.attempt := rfl
@[simp] theorem complete_rxcnt (e : Err) : (complete e s).rxcnt = s.rxcnt := rfl
@[simp] theorem complete_marker (e : Err) : (complete e s).marker = s.marker := rfl
@[simp] theorem complete_build (e : Err) : (complete e s).build = s.build := rfl
@[simp] theorem complete_inputs (e : Err) : (complete e s).inputs = s.inputs := rfl
@[simp] theorem complete_draws (e : Err) : (complete e s).draws = s.draws := rfl
@[simp] theorem complete_out (e : Err) : (complete e s).out = s.out := rfl

/-! ## tick -/

@[simp] theorem tick_retryLimit : (tick s).retryLimit = s.retryLimit := rfl
@[simp] theorem tick_timeout : (tick s).timeout = s.timeout := rfl
@[simp] theorem tick_doneIe : (tick s).doneIe = s.doneIe := rfl
@[simp] theorem tick_busy : (tick s).busy = s.busy := rfl
@[simp] theorem tick_done : (tick s).done = s.done := rfl
@[simp] theorem tick_err : (tick s).err = s.err := rfl
@[simp] theorem tick_valid : (tick s).valid = s.valid := rfl
@[simp] theorem tick_ign : (tick s).ign = s.ign := rfl
@[simp] theorem tick_ovr : (tick s).ovr = s.ovr := rfl
@[simp] theorem tick_phase : (tick s).phase = s.phase := rfl
@[simp] theorem tick_ctx : (tick s).ctx = s.ctx := rfl
@[simp] theorem tick_need : (tick s).need = s.need := rfl
@[simp] theorem tick_cnt : (tick s).cnt = s.cnt := rfl
@[simp] theorem tick_tmr : (tick s).tmr = satIncr s.tmr := rfl
@[simp] theorem tick_fifo : (tick s).fifo = s.fifo := rfl
@[simp] theorem tick_frame : (tick s).frame = s.frame := rfl
@[simp] theorem tick_attempt : (tick s).attempt = s.attempt := rfl
@[simp] theorem tick_rxcnt : (tick s).rxcnt = s.rxcnt := rfl
@[simp] theorem tick_marker : (tick s).marker = s.marker := rfl
@[simp] theorem tick_build : (tick s).build = s.build := rfl
@[simp] theorem tick_inputs : (tick s).inputs = s.inputs := rfl
@[simp] theorem tick_draws : (tick s).draws = s.draws := rfl
@[simp] theorem tick_out : (tick s).out = s.out := rfl

/-! ## storeByte -/

@[simp] theorem storeByte_retryLimit (b : Byte) : (storeByte b s).retryLimit = s.retryLimit := rfl
@[simp] theorem storeByte_timeout (b : Byte) : (storeByte b s).timeout = s.timeout := rfl
@[simp] theorem storeByte_doneIe (b : Byte) : (storeByte b s).doneIe = s.doneIe := rfl
@[simp] theorem storeByte_busy (b : Byte) : (storeByte b s).busy = s.busy := rfl
@[simp] theorem storeByte_done (b : Byte) : (storeByte b s).done = s.done := rfl
@[simp] theorem storeByte_err (b : Byte) : (storeByte b s).err = s.err := rfl
@[simp] theorem storeByte_valid (b : Byte) : (storeByte b s).valid = s.valid := rfl
@[simp] theorem storeByte_ign (b : Byte) : (storeByte b s).ign = s.ign := rfl
@[simp] theorem storeByte_ovr (b : Byte) : (storeByte b s).ovr = s.ovr := rfl
@[simp] theorem storeByte_phase (b : Byte) : (storeByte b s).phase = s.phase := rfl
@[simp] theorem storeByte_ctx (b : Byte) : (storeByte b s).ctx = s.ctx := rfl
@[simp] theorem storeByte_need (b : Byte) : (storeByte b s).need = s.need := rfl
@[simp] theorem storeByte_cnt (b : Byte) : (storeByte b s).cnt = s.cnt := rfl
@[simp] theorem storeByte_tmr (b : Byte) : (storeByte b s).tmr = s.tmr := rfl
@[simp] theorem storeByte_fifo (b : Byte) : (storeByte b s).fifo = s.fifo := rfl
@[simp] theorem storeByte_frame (b : Byte) : (storeByte b s).frame = s.frame.setIfInBounds s.cnt.toNat b := rfl
@[simp] theorem storeByte_attempt (b : Byte) : (storeByte b s).attempt = s.attempt := rfl
@[simp] theorem storeByte_rxcnt (b : Byte) : (storeByte b s).rxcnt = s.cnt + 1#4 := rfl
@[simp] theorem storeByte_marker (b : Byte) : (storeByte b s).marker = s.marker := rfl
@[simp] theorem storeByte_build (b : Byte) : (storeByte b s).build = s.build := rfl
@[simp] theorem storeByte_inputs (b : Byte) : (storeByte b s).inputs = s.inputs := rfl
@[simp] theorem storeByte_draws (b : Byte) : (storeByte b s).draws = s.draws := rfl
@[simp] theorem storeByte_out (b : Byte) : (storeByte b s).out = s.out := rfl

/-! ## accept -/

@[simp] theorem accept_retryLimit : (accept s).retryLimit = s.retryLimit := rfl
@[simp] theorem accept_timeout : (accept s).timeout = s.timeout := rfl
@[simp] theorem accept_doneIe : (accept s).doneIe = s.doneIe := rfl
@[simp] theorem accept_busy : (accept s).busy = true := rfl
@[simp] theorem accept_done : (accept s).done = false := rfl
@[simp] theorem accept_err : (accept s).err = .none := rfl
@[simp] theorem accept_valid : (accept s).valid = s.valid := rfl
@[simp] theorem accept_ign : (accept s).ign = s.ign := rfl
@[simp] theorem accept_ovr : (accept s).ovr = s.ovr := rfl
@[simp] theorem accept_phase : (accept s).phase = s.phase := rfl
@[simp] theorem accept_ctx : (accept s).ctx = s.ctx := rfl
@[simp] theorem accept_need : (accept s).need = s.need := rfl
@[simp] theorem accept_cnt : (accept s).cnt = s.cnt := rfl
@[simp] theorem accept_tmr : (accept s).tmr = s.tmr := rfl
@[simp] theorem accept_fifo : (accept s).fifo = s.fifo := rfl
@[simp] theorem accept_frame : (accept s).frame = s.frame := rfl
@[simp] theorem accept_attempt : (accept s).attempt = s.attempt := rfl
@[simp] theorem accept_rxcnt : (accept s).rxcnt = s.rxcnt := rfl
@[simp] theorem accept_marker : (accept s).marker = s.marker := rfl
@[simp] theorem accept_build : (accept s).build = s.build := rfl
@[simp] theorem accept_inputs : (accept s).inputs = s.inputs := rfl
@[simp] theorem accept_draws : (accept s).draws = s.draws := rfl
@[simp] theorem accept_out : (accept s).out = s.out := rfl

/-! ## RESET_STATE -/

@[simp] theorem resetOf_retryLimit (b : Build) : (State.resetOf b).retryLimit = 3#4 := rfl
@[simp] theorem resetOf_timeout (b : Build) : (State.resetOf b).timeout = timeoutReset b.fClkHz := rfl
@[simp] theorem resetOf_doneIe (b : Build) : (State.resetOf b).doneIe = false := rfl
@[simp] theorem resetOf_busy (b : Build) : (State.resetOf b).busy = false := rfl
@[simp] theorem resetOf_done (b : Build) : (State.resetOf b).done = false := rfl
@[simp] theorem resetOf_err (b : Build) : (State.resetOf b).err = .none := rfl
@[simp] theorem resetOf_valid (b : Build) : (State.resetOf b).valid = false := rfl
@[simp] theorem resetOf_ign (b : Build) : (State.resetOf b).ign = false := rfl
@[simp] theorem resetOf_ovr (b : Build) : (State.resetOf b).ovr = false := rfl
@[simp] theorem resetOf_phase (b : Build) : (State.resetOf b).phase = .idle := rfl
@[simp] theorem resetOf_ctx (b : Build) : (State.resetOf b).ctx = .sync := rfl
@[simp] theorem resetOf_need (b : Build) : (State.resetOf b).need = 0#4 := rfl
@[simp] theorem resetOf_cnt (b : Build) : (State.resetOf b).cnt = 0#4 := rfl
@[simp] theorem resetOf_tmr (b : Build) : (State.resetOf b).tmr = 0#32 := rfl
@[simp] theorem resetOf_fifo (b : Build) : (State.resetOf b).fifo = [] := rfl
@[simp] theorem resetOf_frame (b : Build) : (State.resetOf b).frame = frameZero := rfl
@[simp] theorem resetOf_attempt (b : Build) : (State.resetOf b).attempt = 0#4 := rfl
@[simp] theorem resetOf_rxcnt (b : Build) : (State.resetOf b).rxcnt = 0#4 := rfl
@[simp] theorem resetOf_marker (b : Build) : (State.resetOf b).marker = 0#4 := rfl
@[simp] theorem resetOf_build (b : Build) : (State.resetOf b).build = b := rfl
@[simp] theorem resetOf_inputs (b : Build) : (State.resetOf b).inputs = [] := rfl
@[simp] theorem resetOf_draws (b : Build) : (State.resetOf b).draws = 0 := rfl
@[simp] theorem resetOf_out (b : Build) : (State.resetOf b).out = Outputs.reset := rfl

end Sys2Proof.Machine
end

