-- ==== Sys2Proof/Laws/Ops.lean ====
section
/-! SUPPORT. One lemma per shared operation that says once everything it can do; later proofs cite these instead of
unfolding the operation. -/

namespace Sys2Proof.Machine

/-! ## Plumbing -/

@[simp] theorem andThen_next (s : State) (f : State → Result) : andThen (.next s) f = f s := rfl

theorem andThen_eq_next {o : Result} {f : State → Result} {t : State} (h : andThen o f = .next t) :
    ∃ s, o = .next s ∧ f s = .next t := by
  cases o with
  | next s => exact ⟨s, rfl, h⟩
  | fault r => cases h
  | refused r => cases h

/-! ## The byte source -/

/-- The three outcomes of a cycle's push (20_memory.md R53). -/
theorem push_cases (p : Pins) (s : State) :
    (p.rxValid = false ∧ push p s = s) ∨
    (p.rxValid = true ∧ s.fifo.length < s.build.fifoDepth ∧
      push p s = { s with fifo := s.fifo ++ [p.rxData] }) ∨
    (p.rxValid = true ∧ s.build.fifoDepth ≤ s.fifo.length ∧ push p s = setOvr s) := by
  unfold push
  by_cases hv : p.rxValid = true
  · by_cases hl : s.fifo.length < s.build.fifoDepth
    · simp [hv, hl]
    · simp [hv, hl, Nat.le_of_not_lt hl]
  · simp [hv]

/-! ## The sequencer -/

/-- NextAttempt starts an attempt or gives up (43_read.md R117). -/
theorem nextAttempt_cases (s : State) :
    (s.attempt < s.retryLimit ∧
      nextAttempt s = { s with
        attempt := s.attempt + 1#4, frame := frameZero, rxcnt := 0#4,
        phase := .cap, need := 14#4, cnt := 0#4, tmr := 0#32 }) ∨
    (s.retryLimit ≤ s.attempt ∧ nextAttempt s = complete .readFailure s) := by
  unfold nextAttempt
  by_cases h : s.attempt < s.retryLimit
  · exact .inl ⟨h, by simp [h, beginPhase]⟩
  · exact .inr ⟨BitVec.not_lt.mp h, by simp [h]⟩

/-- SyncDone ends a SYNC or goes on to the next attempt of a READ (41_sync.md R95). -/
theorem syncDone_cases (s : State) :
    (s.ctx = .sync ∧ syncDone s = complete .none s) ∨ (s.ctx = .read ∧ syncDone s = nextAttempt s) := by
  unfold syncDone
  cases s.ctx <;> simp

/-- CaptureDone succeeds or resynchronizes (43_read.md R120). -/
theorem captureDone_cases (s : State) :
    (aligned s.frame = true ∧ captureDone s = complete .none { s with valid := true }) ∨
    (aligned s.frame = false ∧ captureDone s = beginPhase .mark 1#4 s) := by
  unfold captureDone success resync
  cases aligned s.frame <;> simp

/-- A CAP byte is stored; the fourteenth ends the capture (43_read.md R119). -/
theorem capByte_cases (b : Byte) (s : State) :
    (s.cnt.toNat = 13 ∧ capByte b s = captureDone (storeByte b s)) ∨
    (s.cnt.toNat ≠ 13 ∧ capByte b s = tick { storeByte b s with cnt := s.cnt + 1#4 }) := by
  unfold capByte
  by_cases h : s.cnt.toNat + 1 = 14
  · exact .inl ⟨by omega, by simp [h]⟩
  · exact .inr ⟨by omega, by simp [h]⟩

/-- A DISC byte counts; the last one ends the synchronization (41_sync.md R93). -/
theorem discByte_cases (s : State) :
    (s.cnt.toNat + 1 = s.need.toNat ∧ discByte s = syncDone s) ∨
    (s.cnt.toNat + 1 ≠ s.need.toNat ∧ discByte s = tick { s with cnt := s.cnt + 1#4 }) := by
  unfold discByte
  by_cases h : s.cnt.toNat + 1 = s.need.toNat
  · exact .inl ⟨h, by simp [h]⟩
  · exact .inr ⟨h, by simp [h]⟩

/-- What a popped byte does, by phase (40_dispatch.md R83). -/
theorem phaseByte_cases (onMark : State → State) (b : Byte) (s : State) :
    (s.phase = .idle ∧ phaseByte onMark b s = s) ∨ (s.phase = .mark ∧ phaseByte onMark b s = onMark s) ∨
    (s.phase = .disc ∧ phaseByte onMark b s = discByte s) ∨
    (s.phase = .cap ∧ phaseByte onMark b s = capByte b s) := by
  unfold phaseByte
  cases s.phase <;> simp

/-- A cycle that finds the FIFO empty ends the phase or counts (40_dispatch.md R81, R82, R83). -/
theorem emptyCycle_cases (s : State) :
    (s.tmr < s.timeout ∧ emptyCycle s = tick s) ∨
    (s.timeout ≤ s.tmr ∧
      ((s.phase = .idle ∧ emptyCycle s = s) ∨ (s.phase = .mark ∧ emptyCycle s = complete .noData s) ∨
       (s.phase = .disc ∧ emptyCycle s = syncDone s) ∨
       (s.phase = .cap ∧ emptyCycle s = beginPhase .mark 1#4 s))) := by
  unfold emptyCycle phaseTimeout resync
  by_cases h : s.timeout ≤ s.tmr
  · refine .inr ⟨h, ?_⟩
    cases s.phase <;> simp [h]
  · exact .inl ⟨BitVec.not_le.mp h, by simp [h]⟩

/-- The timer saturates (00_scope.md R7, 60_exceptions.md R144). -/
theorem satIncr_toNat (v : Word32) : (satIncr v).toNat = min (v.toNat + 1) (2 ^ 32 - 1) := by
  unfold satIncr
  split
  · next h => subst h; rfl
  · next h =>
    have hne : v.toNat ≠ 4294967295 := fun e => h (BitVec.eq_of_toNat_eq (by simpa using e))
    have hlt := v.isLt
    simp only [BitVec.toNat_add, BitVec.toNat_ofNat]
    omega

/-! ## Host writes -/

/-- A busy-guarded write is ignored with IGN, or acts (40_dispatch.md R75, R78). -/
theorem busyGuarded_cases (f : State → State) (s : State) :
    (s.busy = true ∧ busyGuarded f s = setIgn s) ∨ (s.busy = false ∧ busyGuarded f s = f s) := by
  unfold busyGuarded
  cases s.busy <;> simp

end Sys2Proof.Machine
end

