-- ==== Sys2Proof/Laws/View.lean ====
section
/-! SUPPORT. The views of FRAME: the lookup table as a function of the key, the bits of the FLAGS word, the cells. -/

namespace Sys2Proof.Machine

/-- `putBit n v` sets bit `n` and leaves the others (30_encoding.md R70). -/
theorem getLsbD_putBit (n : Nat) (v : Bool) (w : Word32) (i : Nat) :
    (putBit n v w).getLsbD i = if i = n ∧ i < 32 then v else w.getLsbD i := by
  unfold putBit
  by_cases hi : i < 32
  · rcases Nat.lt_trichotomy i n with h | h | h
    · cases v <;> simp [hi, h, Nat.ne_of_lt h]
    · subst h; cases v <;> simp [hi]
    · have h0 : i - n ≠ 0 := by omega
      cases v <;> simp [hi, Nat.not_lt.mpr h.le, h0, h.ne']
  · have h2 : ∀ x : Word32, x.getLsbD i = false := fun x => BitVec.getLsbD_of_ge x i (by omega)
    cases v <;> simp [h2, hi]

/-- A key the table does not list is 'X' (30_encoding.md R64). -/
theorem lut_unlisted : ∀ key : BitVec 7, (lutTable.any fun row => row.1 == key) = false → lut key = 0xF#4 := by
  decide

/-- The FLAGS word as the flag positions drive it, one after the other, from zero: the parallel select of
42_frame_decode.md R108 is what the six rows of the multiplexer give together (30_encoding.md R70). -/
theorem flagsWord_eq_driven (f : Frame) :
    flagsWord f =
      putBit 25 (f[13].getLsbD 3) (putBit 23 (f[13].getLsbD 2) (putBit 26 (f[13].getLsbD 1) (putBit 27 (f[13].getLsbD 0)
      (putBit 18 (f[12].getLsbD 3) (putBit 19 (f[12].getLsbD 2) (putBit 20 (f[12].getLsbD 1) (putBit 24 (f[12].getLsbD 0)
      (putBit 16 (f[11].getLsbD 3) (putBit 17 (f[11].getLsbD 2) (putBit 5 (f[11].getLsbD 1) (putBit 6 (f[11].getLsbD 0)
      (putBit 10 (f[10].getLsbD 3) (putBit 21 (f[10].getLsbD 2) (putBit 12 (f[10].getLsbD 1) (putBit 4 (f[10].getLsbD 0)
      (putBit 9 (f[9].getLsbD 3) (putBit 8 (f[9].getLsbD 2) (putBit 11 (f[9].getLsbD 1) (putBit 22 (f[9].getLsbD 0)
      (putBit 0 (f[0].getLsbD 3) (putBit 1 (f[0].getLsbD 2) (putBit 2 (f[0].getLsbD 1) (putBit 3 (f[0].getLsbD 0)
      0#32))))))))))))))))))))))) := by
  apply BitVec.eq_of_getLsbD_eq
  intro i hi
  simp only [getLsbD_putBit, flagsWord, rsvdVec, measVec, scaleVec, flagVec, frameBit, BitVec.getLsbD_cast,
    BitVec.getLsbD_append]
  interval_cases i <;> simp

end Sys2Proof.Machine
end

