-- ==== Sys2Proof/Laws/Cycle.lean ====
section
/-! SUPPORT. What the parts of a clock cycle do: the instruction each decoder gives, the nets the decode logic settles
to, and every change a host access can make. -/

namespace Sys2Proof.Machine

/-! ## Frame bytes -/

/-- What a byte of position `p` does in a MARK phase (41_sync.md R90, R91, R92). -/
def markByte (p : Nibble) (s : State) : State :=
  if p = 0#4 ∨ p = 15#4 then markInvalid p s else if p = 14#4 then markLast s else markDiscard p s

/-- Every class of stream byte acts as the phases say (40_dispatch.md R83). -/
theorem exec_decodeFrameByte (b : Byte) (s : State) :
    exec (decodeFrameByte b) s = .next (phaseByte (markByte (pos b)) b s) := by
  have hb : byteOf (pos b) (low b) = b := byteOf_pos_low b
  generalize hp : pos b = p at hb
  generalize hd : low b = d at hb
  subst hb
  have key : ∀ q : Nibble, pos (byteOf q d) = q := fun q => pos_byteOf q d
  obtain ⟨n, hn⟩ : ∃ n : Fin 16, p = BitVec.ofFin n := ⟨p.toFin, rfl⟩
  subst hn
  fin_cases n <;>
    (simp only [decodeFrameByte, pos_byteOf, low_byteOf] ; rfl)

theorem runCode_frameByte (b : Byte) (s : State) :
    runCode (.frameByte b) s = .next (phaseByte (markByte (pos b)) b s) :=
  exec_decodeFrameByte b s

/-! ## The decode logic -/

/-- Every row of the digit lookup table drives its glyph (42_frame_decode.md R104, R105). -/
theorem exec_decodePair (k : Fin 4) (hb : Bool) (key : BitVec 7) (s : State) :
    exec (decodePair k hb key) s = .next (driveCell k hb (lut key) s) := by
  have hkey : BitVec.ofNat 7 key.toNat = key := by simp
  unfold decodePair
  split
  case h_13 h1 h2 h3 h4 h5 h6 h7 h8 h9 h10 h11 h12 =>
    have hun : (lutTable.any fun row => row.1 == key) = false := by
      have hne : ∀ n < 128, key.toNat ≠ n → (BitVec.ofNat 7 n == key) = false := by
        intro n hn h
        simp only [beq_eq_false_iff_ne, ne_eq]
        rintro rfl
        exact h (by simp; omega)
      simp only [lutTable, List.any_cons, List.any_nil, Bool.or_false, Bool.or_eq_false_iff]
      exact ⟨hne _ (by decide) h1, hne _ (by decide) h2, hne _ (by decide) h3, hne _ (by decide) h4,
        hne _ (by decide) h5, hne _ (by decide) h6, hne _ (by decide) h7, hne _ (by decide) h8,
        hne _ (by decide) h9, hne _ (by decide) h10, hne _ (by decide) h11, hne _ (by decide) h12⟩
    rw [lut_unlisted key hun]; rfl
  all_goals (next h => rw [h] at hkey; subst hkey; rfl)

theorem runCode_digitPair (k : Fin 4) (hb : Bool) (key : BitVec 7) (s : State) :
    runCode (.digitPair k hb key) s = .next (driveCell k hb (lut key) s) :=
  exec_decodePair k hb key s

/-! The six flag positions (30_encoding.md R68, R70). -/

theorem runCode_flagCode_1 (f : Frame) (s : State) :
    runCode (flagCode f 0) s = .next (driveFlags 0 1 2 3 (low f[0]) s) := by
  simp only [runCode, flagCode, decode, decodeFlag, pos_byteOf, low_byteOf]; rfl

theorem runCode_flagCode_10 (f : Frame) (s : State) :
    runCode (flagCode f 9) s = .next (driveFlags 9 8 11 22 (low f[9]) s) := by
  simp only [runCode, flagCode, decode, decodeFlag, pos_byteOf, low_byteOf]; rfl

theorem runCode_flagCode_11 (f : Frame) (s : State) :
    runCode (flagCode f 10) s = .next (driveFlags 10 21 12 4 (low f[10]) s) := by
  simp only [runCode, flagCode, decode, decodeFlag, pos_byteOf, low_byteOf]; rfl

theorem runCode_flagCode_12 (f : Frame) (s : State) :
    runCode (flagCode f 11) s = .next (driveFlags 16 17 5 6 (low f[11]) s) := by
  simp only [runCode, flagCode, decode, decodeFlag, pos_byteOf, low_byteOf]; rfl

theorem runCode_flagCode_13 (f : Frame) (s : State) :
    runCode (flagCode f 12) s = .next (driveFlags 18 19 20 24 (low f[12]) s) := by
  simp only [runCode, flagCode, decode, decodeFlag, pos_byteOf, low_byteOf]; rfl

theorem runCode_flagCode_14 (f : Frame) (s : State) :
    runCode (flagCode f 13) s = .next (driveFlags 25 23 26 27 (low f[13]) s) := by
  simp only [runCode, flagCode, decode, decodeFlag, pos_byteOf, low_byteOf]; rfl

theorem driveFlags_low (n3 n2 n1 n0 : Nat) (b : Byte) (s : State) :
    driveFlags n3 n2 n1 n0 (low b) s = { s with out := { s.out with
      flags := putBit n3 (b.getLsbD 3) (putBit n2 (b.getLsbD 2) (putBit n1 (b.getLsbD 1)
        (putBit n0 (b.getLsbD 0) s.out.flags))) } } := by
  have h : ∀ j < 4, (low b).getLsbD j = b.getLsbD j := by
    intro j hj; simp [low, hj]
  simp only [driveFlags, h 0 (by decide), h 1 (by decide), h 2 (by decide), h 3 (by decide)]

/-- Setting the four cells one after the other gives the vector of the four. -/
theorem set_four_cells (v : Vector Byte 4) (a b c e : Byte) :
    (((v.set (0 : Fin 4) a).set (1 : Fin 4) b).set (2 : Fin 4) c).set (3 : Fin 4) e = #v[a, b, c, e] := by
  ext i hi
  interval_cases i <;> simp

/-- The nets of a cycle settle on the views of FRAME at its start (42_frame_decode.md R98, R106, R109), with
bus_rdata 0 (20_memory.md R44). -/
theorem settle_eq (s : State) :
    settle s = .next { s with out :=
      { rdata := 0#32, cells := Vector.ofFn (digitCell s.frame), flags := flagsWord s.frame } } := by
  have hfn : Vector.ofFn (digitCell s.frame) =
      #v[digitCell s.frame 0, digitCell s.frame 1, digitCell s.frame 2, digitCell s.frame 3] := by
    ext i hi
    interval_cases i <;> simp
  rw [hfn, flagsWord_eq_driven]
  simp only [settle, frameCodes, runCodes, andThen_next, runCode_digitPair, runCode_flagCode_1,
    runCode_flagCode_10, runCode_flagCode_11, runCode_flagCode_12, runCode_flagCode_13, runCode_flagCode_14,
    driveFlags_low, driveCell, clearNets, set_four_cells, digitCell]

/-! ## The host's access -/

/-- Every change a host access can make to a state (20_memory.md R48, R49). -/
inductive HostChange (s : State) : State → Prop
  /-- No effect (40_dispatch.md R75, R85; 10_state.md R42). -/
  | none : HostChange s s
  /-- A read (20_memory.md R44). -/
  | read (w : Word32) : HostChange s (driveRead w s)
  /-- A STATUS write (10_state.md R33). -/
  | clear (x y z : Bool) : HostChange s (clearSticky x y z s)
  /-- An IRQ_EN write (10_state.md R34). -/
  | enable (v : Bool) : HostChange s { s with doneIe := v }
  /-- An ignored write (40_dispatch.md R78, R86). -/
  | ignored : HostChange s (setIgn s)
  /-- A RETRY write (10_state.md R35). -/
  | retry (v : Nibble) (h : s.busy = false) : HostChange s { s with retryLimit := v }
  /-- A TIMEOUT write (10_state.md R36). -/
  | timeout (v : Word32) (h : s.busy = false) : HostChange s { s with timeout := v }
  /-- An accepted SYNC (41_sync.md R88). -/
  | sync (h : s.busy = false) : HostChange s (startSync (accept s))
  /-- An accepted READ (43_read.md R116). -/
  | startRead (h : s.busy = false) : HostChange s (startRead (accept s))

theorem hostChange_busyGuarded {s : State} {f : State → State} (h : s.busy = false → HostChange s (f s)) :
    HostChange s (busyGuarded f s) := by
  obtain ⟨_, e⟩ | ⟨hb, e⟩ := busyGuarded_cases f s <;> rw [e]
  · exact .ignored
  · exact h hb

theorem exec_decodeRead (a : Addr) (s : State) :
    ∃ w, exec (decodeRead a) s = .next (driveRead w s) := by
  unfold decodeRead
  split <;> exact ⟨_, rfl⟩

theorem exec_decodeWrite (a : Addr) (v : Word32) (s : State) :
    ∃ t, exec (decodeWrite a v) s = .next t ∧ HostChange s t := by
  unfold decodeWrite
  split
  · unfold decodeCommand
    split
    · exact ⟨_, rfl, .none⟩
    · exact ⟨_, rfl, hostChange_busyGuarded .sync⟩
    · exact ⟨_, rfl, hostChange_busyGuarded .startRead⟩
    · exact ⟨_, rfl, .ignored⟩
  · exact ⟨_, rfl, .clear _ _ _⟩
  · exact ⟨_, rfl, .enable _⟩
  · exact ⟨_, rfl, hostChange_busyGuarded (.retry _)⟩
  · exact ⟨_, rfl, hostChange_busyGuarded (.timeout _)⟩
  all_goals exact ⟨_, rfl, .none⟩

/-- A cycle's host access answers a next state and makes one of the listed changes. -/
theorem hostAccess_spec (p : Pins) (s : State) : ∃ t, hostAccess p s = .next t ∧ HostChange s t := by
  unfold hostAccess busCode
  by_cases hw : p.busWr = true
  · simpa [hw, runCode, decode] using exec_decodeWrite p.busAddr p.busWdata s
  · by_cases hr : p.busRd = true
    · obtain ⟨w, e⟩ := exec_decodeRead p.busAddr s
      exact ⟨_, by simpa [hw, hr, runCode, decode] using e, .read w⟩
    · exact ⟨s, by simp [hw, hr], .none⟩

/-! ## The sequencer's turn -/

/-- The sequencer's turn consumes a waiting byte, or is a cycle with the FIFO empty (40_dispatch.md R81). -/
theorem sequencerTurn_cases (s : State) :
    (∃ b rest, s.fifo = b :: rest ∧
      sequencerTurn s = .next (phaseByte (markByte (pos b)) b { s with fifo := rest })) ∨
    (s.fifo = [] ∧ sequencerTurn s = .next (emptyCycle s)) := by
  unfold sequencerTurn
  split
  · next b rest h => exact .inl ⟨b, rest, h, runCode_frameByte b _⟩
  · next h => exact .inr ⟨h, rfl⟩

/-! ## The step -/

/-- The state in which a cycle's host access acts: the nets have settled (42_frame_decode.md R98). -/
def settled (s : State) : State :=
  { s with out := { rdata := 0#32, cells := Vector.ofFn (digitCell s.frame), flags := flagsWord s.frame } }

/-- The sequencer's turn as a function: what `sequencerTurn` answers. -/
def turn (s : State) : State :=
  match s.fifo with
  | b :: rest => phaseByte (markByte (pos b)) b { s with fifo := rest }
  | [] => emptyCycle s

theorem sequencerTurn_eq (s : State) : sequencerTurn s = .next (turn s) := by
  unfold turn
  obtain ⟨b, rest, h, e⟩ | ⟨h, e⟩ := sequencerTurn_cases s <;> rw [h, e]

/-- A cycle with rst = 0: one of the listed host changes, then the sequencer unless the phase at the start is IDLE,
then the push. -/
theorem runCycle_cases (p : Pins) (s : State) :
    ∃ u, HostChange (settled s) u ∧ hostAccess p (settled s) = .next u ∧
      runCycle p s = .next (push p (if s.phase = .idle then u else turn u)) := by
  obtain ⟨u, hu, hc⟩ := hostAccess_spec p (settled s)
  refine ⟨u, hc, hu, ?_⟩
  unfold runCycle
  rw [settle_eq, andThen_next]
  change andThen (hostAccess p (settled s)) _ = _
  rw [hu, andThen_next]
  split
  · simp
  · simp [sequencerTurn_eq]

end Sys2Proof.Machine
end

