-- ==== Sys2Proof/Laws/PerInstr.lean ====
section
/-! SUPPORT. The family TableRow: the encoded word of an instruction, under the mask of its row of
spec/opcode_table.json, is the row's match. One lemma per constructor. -/

namespace Sys2Proof.Laws.TableRow

/-- Mask and match of the row of spec/opcode_table.json an instruction stands for. -/
def row : Instr → Nat × Nat
  | .rdCmd _ => (0x3C, 0x00)
  | .rdStatus _ => (0x3C, 0x04)
  | .rdIrqEn _ => (0x3C, 0x08)
  | .rdRetry _ => (0x3C, 0x0C)
  | .rdTimeout _ => (0x3C, 0x10)
  | .rdResult _ => (0x3C, 0x14)
  | .rdDigits _ => (0x3C, 0x18)
  | .rdFlags _ => (0x3C, 0x1C)
  | .rdAlign _ => (0x3C, 0x20)
  | .rdFrame0 _ => (0x3C, 0x24)
  | .rdFrame1 _ => (0x3C, 0x28)
  | .rdFrame2 _ => (0x3C, 0x2C)
  | .rdFrame3 _ => (0x3C, 0x30)
  | .rdUnmapped34 _ => (0x3C, 0x34)
  | .rdUnmapped38 _ => (0x3C, 0x38)
  | .rdUnmapped3C _ => (0x3C, 0x3C)
  | .nop _ _ => (0x00000003, 0x00000000)
  | .sync _ _ => (0x00000003, 0x00000001)
  | .read _ _ => (0x00000003, 0x00000002)
  | .cmdReserved _ _ => (0x00000003, 0x00000003)
  | .wrStatus _ _ => (0x3C, 0x04)
  | .wrIrqEn _ _ => (0x3C, 0x08)
  | .wrRetry _ _ => (0x3C, 0x0C)
  | .wrTimeout _ _ => (0x3C, 0x10)
  | .wrResult _ _ => (0x3C, 0x14)
  | .wrDigits _ _ => (0x3C, 0x18)
  | .wrFlags _ _ => (0x3C, 0x1C)
  | .wrAlign _ _ => (0x3C, 0x20)
  | .wrFrame0 _ _ => (0x3C, 0x24)
  | .wrFrame1 _ _ => (0x3C, 0x28)
  | .wrFrame2 _ _ => (0x3C, 0x2C)
  | .wrFrame3 _ _ => (0x3C, 0x30)
  | .wrUnmapped34 _ _ => (0x3C, 0x34)
  | .wrUnmapped38 _ _ => (0x3C, 0x38)
  | .wrUnmapped3C _ _ => (0x3C, 0x3C)
  | .fbPos0 _ => (0xF0, 0x00)
  | .fbPos1 _ => (0xF0, 0x10)
  | .fbPos2 _ => (0xF0, 0x20)
  | .fbPos3 _ => (0xF0, 0x30)
  | .fbPos4 _ => (0xF0, 0x40)
  | .fbPos5 _ => (0xF0, 0x50)
  | .fbPos6 _ => (0xF0, 0x60)
  | .fbPos7 _ => (0xF0, 0x70)
  | .fbPos8 _ => (0xF0, 0x80)
  | .fbPos9 _ => (0xF0, 0x90)
  | .fbPos10 _ => (0xF0, 0xA0)
  | .fbPos11 _ => (0xF0, 0xB0)
  | .fbPos12 _ => (0xF0, 0xC0)
  | .fbPos13 _ => (0xF0, 0xD0)
  | .fbPos14 _ => (0xF0, 0xE0)
  | .fbPos15 _ => (0xF0, 0xF0)
  | .lut1 _ _ => (0x7F, 0x05)
  | .lut2 _ _ => (0x7F, 0x5B)
  | .lut3 _ _ => (0x7F, 0x1F)
  | .lut4 _ _ => (0x7F, 0x27)
  | .lut5 _ _ => (0x7F, 0x3E)
  | .lut6 _ _ => (0x7F, 0x7E)
  | .lut7 _ _ => (0x7F, 0x15)
  | .lut8 _ _ => (0x7F, 0x7F)
  | .lut9 _ _ => (0x7F, 0x3F)
  | .lut0 _ _ => (0x7F, 0x7D)
  | .lutL _ _ => (0x7F, 0x68)
  | .lutBlank _ _ => (0x7F, 0x00)
  | .lutX _ _ _ => (0x00, 0x00)
  | .flagsPos1 _ => (0xF0, 0x10)
  | .flagsPos10 _ => (0xF0, 0xA0)
  | .flagsPos11 _ => (0xF0, 0xB0)
  | .flagsPos12 _ => (0xF0, 0xC0)
  | .flagsPos13 _ => (0xF0, 0xD0)
  | .flagsPos14 _ => (0xF0, 0xE0)

/-- The encoded word of an instruction as the number the table's mask is applied to: bus_addr for a BUS row,
bus_wdata for a CMD row, the byte, or the KEY. -/
def word (i : Instr) : Nat :=
  match encode i with
  | .busRead a => a.toNat
  | .busWrite a v => if (row i).1 = 0x00000003 then v.toNat else a.toNat
  | .frameByte b => b.toNat
  | .digitPair _ _ key => key.toNat
  | .flagNibble b => b.toNat

/-- The encoded word matches the instruction's row. -/
def Statement (i : Instr) : Prop := word i &&& (row i).1 = (row i).2

theorem rdCmd (lane : BitVec 2) : Statement (.rdCmd lane) := addrOf_toNat_and 0#4 lane
theorem rdStatus (lane : BitVec 2) : Statement (.rdStatus lane) := addrOf_toNat_and 1#4 lane
theorem rdIrqEn (lane : BitVec 2) : Statement (.rdIrqEn lane) := addrOf_toNat_and 2#4 lane
theorem rdRetry (lane : BitVec 2) : Statement (.rdRetry lane) := addrOf_toNat_and 3#4 lane
theorem rdTimeout (lane : BitVec 2) : Statement (.rdTimeout lane) := addrOf_toNat_and 4#4 lane
theorem rdResult (lane : BitVec 2) : Statement (.rdResult lane) := addrOf_toNat_and 5#4 lane
theorem rdDigits (lane : BitVec 2) : Statement (.rdDigits lane) := addrOf_toNat_and 6#4 lane
theorem rdFlags (lane : BitVec 2) : Statement (.rdFlags lane) := addrOf_toNat_and 7#4 lane
theorem rdAlign (lane : BitVec 2) : Statement (.rdAlign lane) := addrOf_toNat_and 8#4 lane
theorem rdFrame0 (lane : BitVec 2) : Statement (.rdFrame0 lane) := addrOf_toNat_and 9#4 lane
theorem rdFrame1 (lane : BitVec 2) : Statement (.rdFrame1 lane) := addrOf_toNat_and 10#4 lane
theorem rdFrame2 (lane : BitVec 2) : Statement (.rdFrame2 lane) := addrOf_toNat_and 11#4 lane
theorem rdFrame3 (lane : BitVec 2) : Statement (.rdFrame3 lane) := addrOf_toNat_and 12#4 lane
theorem rdUnmapped34 (lane : BitVec 2) : Statement (.rdUnmapped34 lane) := addrOf_toNat_and 13#4 lane
theorem rdUnmapped38 (lane : BitVec 2) : Statement (.rdUnmapped38 lane) := addrOf_toNat_and 14#4 lane
theorem rdUnmapped3C (lane : BitVec 2) : Statement (.rdUnmapped3C lane) := addrOf_toNat_and 15#4 lane
theorem nop (lane : BitVec 2) (rest : BitVec 30) : Statement (.nop lane rest) := cmdWordOf_toNat_and rest 0#2
theorem sync (lane : BitVec 2) (rest : BitVec 30) : Statement (.sync lane rest) := cmdWordOf_toNat_and rest 1#2
theorem read (lane : BitVec 2) (rest : BitVec 30) : Statement (.read lane rest) := cmdWordOf_toNat_and rest 2#2
theorem cmdReserved (lane : BitVec 2) (rest : BitVec 30) : Statement (.cmdReserved lane rest) := cmdWordOf_toNat_and rest 3#2
theorem wrStatus (lane : BitVec 2) (data : Word32) : Statement (.wrStatus lane data) := addrOf_toNat_and 1#4 lane
theorem wrIrqEn (lane : BitVec 2) (data : Word32) : Statement (.wrIrqEn lane data) := addrOf_toNat_and 2#4 lane
theorem wrRetry (lane : BitVec 2) (data : Word32) : Statement (.wrRetry lane data) := addrOf_toNat_and 3#4 lane
theorem wrTimeout (lane : BitVec 2) (data : Word32) : Statement (.wrTimeout lane data) := addrOf_toNat_and 4#4 lane
theorem wrResult (lane : BitVec 2) (data : Word32) : Statement (.wrResult lane data) := addrOf_toNat_and 5#4 lane
theorem wrDigits (lane : BitVec 2) (data : Word32) : Statement (.wrDigits lane data) := addrOf_toNat_and 6#4 lane
theorem wrFlags (lane : BitVec 2) (data : Word32) : Statement (.wrFlags lane data) := addrOf_toNat_and 7#4 lane
theorem wrAlign (lane : BitVec 2) (data : Word32) : Statement (.wrAlign lane data) := addrOf_toNat_and 8#4 lane
theorem wrFrame0 (lane : BitVec 2) (data : Word32) : Statement (.wrFrame0 lane data) := addrOf_toNat_and 9#4 lane
theorem wrFrame1 (lane : BitVec 2) (data : Word32) : Statement (.wrFrame1 lane data) := addrOf_toNat_and 10#4 lane
theorem wrFrame2 (lane : BitVec 2) (data : Word32) : Statement (.wrFrame2 lane data) := addrOf_toNat_and 11#4 lane
theorem wrFrame3 (lane : BitVec 2) (data : Word32) : Statement (.wrFrame3 lane data) := addrOf_toNat_and 12#4 lane
theorem wrUnmapped34 (lane : BitVec 2) (data : Word32) : Statement (.wrUnmapped34 lane data) := addrOf_toNat_and 13#4 lane
theorem wrUnmapped38 (lane : BitVec 2) (data : Word32) : Statement (.wrUnmapped38 lane data) := addrOf_toNat_and 14#4 lane
theorem wrUnmapped3C (lane : BitVec 2) (data : Word32) : Statement (.wrUnmapped3C lane data) := addrOf_toNat_and 15#4 lane
theorem fbPos0 (data : Nibble) : Statement (.fbPos0 data) := byteOf_toNat_and 0#4 data
theorem fbPos1 (data : Nibble) : Statement (.fbPos1 data) := byteOf_toNat_and 1#4 data
theorem fbPos2 (data : Nibble) : Statement (.fbPos2 data) := byteOf_toNat_and 2#4 data
theorem fbPos3 (data : Nibble) : Statement (.fbPos3 data) := byteOf_toNat_and 3#4 data
theorem fbPos4 (data : Nibble) : Statement (.fbPos4 data) := byteOf_toNat_and 4#4 data
theorem fbPos5 (data : Nibble) : Statement (.fbPos5 data) := byteOf_toNat_and 5#4 data
theorem fbPos6 (data : Nibble) : Statement (.fbPos6 data) := byteOf_toNat_and 6#4 data
theorem fbPos7 (data : Nibble) : Statement (.fbPos7 data) := byteOf_toNat_and 7#4 data
theorem fbPos8 (data : Nibble) : Statement (.fbPos8 data) := byteOf_toNat_and 8#4 data
theorem fbPos9 (data : Nibble) : Statement (.fbPos9 data) := byteOf_toNat_and 9#4 data
theorem fbPos10 (data : Nibble) : Statement (.fbPos10 data) := byteOf_toNat_and 10#4 data
theorem fbPos11 (data : Nibble) : Statement (.fbPos11 data) := byteOf_toNat_and 11#4 data
theorem fbPos12 (data : Nibble) : Statement (.fbPos12 data) := byteOf_toNat_and 12#4 data
theorem fbPos13 (data : Nibble) : Statement (.fbPos13 data) := byteOf_toNat_and 13#4 data
theorem fbPos14 (data : Nibble) : Statement (.fbPos14 data) := byteOf_toNat_and 14#4 data
theorem fbPos15 (data : Nibble) : Statement (.fbPos15 data) := byteOf_toNat_and 15#4 data
theorem lut1 (cell : Fin 4) (hb : Bool) : Statement (.lut1 cell hb) := key_toNat_and 0x05#7
theorem lut2 (cell : Fin 4) (hb : Bool) : Statement (.lut2 cell hb) := key_toNat_and 0x5B#7
theorem lut3 (cell : Fin 4) (hb : Bool) : Statement (.lut3 cell hb) := key_toNat_and 0x1F#7
theorem lut4 (cell : Fin 4) (hb : Bool) : Statement (.lut4 cell hb) := key_toNat_and 0x27#7
theorem lut5 (cell : Fin 4) (hb : Bool) : Statement (.lut5 cell hb) := key_toNat_and 0x3E#7
theorem lut6 (cell : Fin 4) (hb : Bool) : Statement (.lut6 cell hb) := key_toNat_and 0x7E#7
theorem lut7 (cell : Fin 4) (hb : Bool) : Statement (.lut7 cell hb) := key_toNat_and 0x15#7
theorem lut8 (cell : Fin 4) (hb : Bool) : Statement (.lut8 cell hb) := key_toNat_and 0x7F#7
theorem lut9 (cell : Fin 4) (hb : Bool) : Statement (.lut9 cell hb) := key_toNat_and 0x3F#7
theorem lut0 (cell : Fin 4) (hb : Bool) : Statement (.lut0 cell hb) := key_toNat_and 0x7D#7
theorem lutL (cell : Fin 4) (hb : Bool) : Statement (.lutL cell hb) := key_toNat_and 0x68#7
theorem lutBlank (cell : Fin 4) (hb : Bool) : Statement (.lutBlank cell hb) := key_toNat_and 0x00#7
theorem lutX (cell : Fin 4) (hb : Bool) (key : BitVec 7) : Statement (.lutX cell hb key) := Nat.and_zero _
theorem flagsPos1 (data : Nibble) : Statement (.flagsPos1 data) := byteOf_toNat_and 1#4 data
theorem flagsPos10 (data : Nibble) : Statement (.flagsPos10 data) := byteOf_toNat_and 10#4 data
theorem flagsPos11 (data : Nibble) : Statement (.flagsPos11 data) := byteOf_toNat_and 11#4 data
theorem flagsPos12 (data : Nibble) : Statement (.flagsPos12 data) := byteOf_toNat_and 12#4 data
theorem flagsPos13 (data : Nibble) : Statement (.flagsPos13 data) := byteOf_toNat_and 13#4 data
theorem flagsPos14 (data : Nibble) : Statement (.flagsPos14 data) := byteOf_toNat_and 14#4 data

end Sys2Proof.Laws.TableRow
end

