-- ==== Sys2Proof/Tests/Slice0.lean ====
section
/-! SUPPORT. The model's own tests: the decoding of every row by a word written out from the spec, single steps with the
results of 95_test_vectors.md, the well-formedness check, and a witness for the hypotheses of every statement. -/

namespace Sys2Proof.Tests

open Sys2Proof Sys2Proof.Machine

/-! ## Decoding, one word for every row -/

/-- 30_encoding.md R58, 10_state.md R31: the offsets of the registers. -/
theorem test_decode_reads :
    decode (.busRead 0x00#6) = .ok (.rdCmd 0#2) ∧
    decode (.busRead 0x04#6) = .ok (.rdStatus 0#2) ∧
    decode (.busRead 0x08#6) = .ok (.rdIrqEn 0#2) ∧
    decode (.busRead 0x0C#6) = .ok (.rdRetry 0#2) ∧
    decode (.busRead 0x10#6) = .ok (.rdTimeout 0#2) ∧
    decode (.busRead 0x14#6) = .ok (.rdResult 0#2) ∧
    decode (.busRead 0x18#6) = .ok (.rdDigits 0#2) ∧
    decode (.busRead 0x1C#6) = .ok (.rdFlags 0#2) ∧
    decode (.busRead 0x20#6) = .ok (.rdAlign 0#2) ∧
    decode (.busRead 0x24#6) = .ok (.rdFrame0 0#2) ∧
    decode (.busRead 0x28#6) = .ok (.rdFrame1 0#2) ∧
    decode (.busRead 0x2C#6) = .ok (.rdFrame2 0#2) ∧
    decode (.busRead 0x30#6) = .ok (.rdFrame3 0#2) ∧
    decode (.busRead 0x34#6) = .ok (.rdUnmapped34 0#2) ∧
    decode (.busRead 0x38#6) = .ok (.rdUnmapped38 0#2) ∧
    decode (.busRead 0x3C#6) = .ok (.rdUnmapped3C 0#2) := by decide

/-- 30_encoding.md R57: OP in bits 1 to 0, bits 31 to 2 ignored. -/
theorem test_decode_commands :
    decode (.busWrite 0x00#6 0xFFFFFFF0#32) = .ok (.nop 0#2 0x3FFFFFFC#30) ∧
    decode (.busWrite 0x00#6 0xFFFFFFF1#32) = .ok (.sync 0#2 0x3FFFFFFC#30) ∧
    decode (.busWrite 0x00#6 0xFFFFFFF2#32) = .ok (.read 0#2 0x3FFFFFFC#30) ∧
    decode (.busWrite 0x00#6 0xFFFFFFF3#32) = .ok (.cmdReserved 0#2 0x3FFFFFFC#30) := by decide

/-- 40_dispatch.md R75: the slots, with the ignored offset bits 10. -/
theorem test_decode_writes :
    decode (.busWrite 0x06#6 0x89ABCDEF#32) = .ok (.wrStatus 2#2 0x89ABCDEF#32) ∧
    decode (.busWrite 0x0A#6 0x89ABCDEF#32) = .ok (.wrIrqEn 2#2 0x89ABCDEF#32) ∧
    decode (.busWrite 0x0E#6 0x89ABCDEF#32) = .ok (.wrRetry 2#2 0x89ABCDEF#32) ∧
    decode (.busWrite 0x12#6 0x89ABCDEF#32) = .ok (.wrTimeout 2#2 0x89ABCDEF#32) ∧
    decode (.busWrite 0x16#6 0x89ABCDEF#32) = .ok (.wrResult 2#2 0x89ABCDEF#32) ∧
    decode (.busWrite 0x1A#6 0x89ABCDEF#32) = .ok (.wrDigits 2#2 0x89ABCDEF#32) ∧
    decode (.busWrite 0x1E#6 0x89ABCDEF#32) = .ok (.wrFlags 2#2 0x89ABCDEF#32) ∧
    decode (.busWrite 0x22#6 0x89ABCDEF#32) = .ok (.wrAlign 2#2 0x89ABCDEF#32) ∧
    decode (.busWrite 0x26#6 0x89ABCDEF#32) = .ok (.wrFrame0 2#2 0x89ABCDEF#32) ∧
    decode (.busWrite 0x2A#6 0x89ABCDEF#32) = .ok (.wrFrame1 2#2 0x89ABCDEF#32) ∧
    decode (.busWrite 0x2E#6 0x89ABCDEF#32) = .ok (.wrFrame2 2#2 0x89ABCDEF#32) ∧
    decode (.busWrite 0x32#6 0x89ABCDEF#32) = .ok (.wrFrame3 2#2 0x89ABCDEF#32) ∧
    decode (.busWrite 0x36#6 0x89ABCDEF#32) = .ok (.wrUnmapped34 2#2 0x89ABCDEF#32) ∧
    decode (.busWrite 0x3A#6 0x89ABCDEF#32) = .ok (.wrUnmapped38 2#2 0x89ABCDEF#32) ∧
    decode (.busWrite 0x3E#6 0x89ABCDEF#32) = .ok (.wrUnmapped3C 2#2 0x89ABCDEF#32) := by decide

/-- 30_encoding.md R60: the position markers. -/
theorem test_decode_frame_bytes :
    decode (.frameByte 0x0A#8) = .ok (.fbPos0 0xA#4) ∧
    decode (.frameByte 0x1A#8) = .ok (.fbPos1 0xA#4) ∧
    decode (.frameByte 0x2A#8) = .ok (.fbPos2 0xA#4) ∧
    decode (.frameByte 0x3A#8) = .ok (.fbPos3 0xA#4) ∧
    decode (.frameByte 0x4A#8) = .ok (.fbPos4 0xA#4) ∧
    decode (.frameByte 0x5A#8) = .ok (.fbPos5 0xA#4) ∧
    decode (.frameByte 0x6A#8) = .ok (.fbPos6 0xA#4) ∧
    decode (.frameByte 0x7A#8) = .ok (.fbPos7 0xA#4) ∧
    decode (.frameByte 0x8A#8) = .ok (.fbPos8 0xA#4) ∧
    decode (.frameByte 0x9A#8) = .ok (.fbPos9 0xA#4) ∧
    decode (.frameByte 0xAA#8) = .ok (.fbPos10 0xA#4) ∧
    decode (.frameByte 0xBA#8) = .ok (.fbPos11 0xA#4) ∧
    decode (.frameByte 0xCA#8) = .ok (.fbPos12 0xA#4) ∧
    decode (.frameByte 0xDA#8) = .ok (.fbPos13 0xA#4) ∧
    decode (.frameByte 0xEA#8) = .ok (.fbPos14 0xA#4) ∧
    decode (.frameByte 0xFA#8) = .ok (.fbPos15 0xA#4) := by decide

/-- 30_encoding.md R63, R64: the keys. -/
theorem test_decode_digit_pairs :
    decode (.digitPair 2 true 0x05#7) = .ok (.lut1 2 true) ∧
    decode (.digitPair 2 true 0x5B#7) = .ok (.lut2 2 true) ∧
    decode (.digitPair 2 true 0x1F#7) = .ok (.lut3 2 true) ∧
    decode (.digitPair 2 true 0x27#7) = .ok (.lut4 2 true) ∧
    decode (.digitPair 2 true 0x3E#7) = .ok (.lut5 2 true) ∧
    decode (.digitPair 2 true 0x7E#7) = .ok (.lut6 2 true) ∧
    decode (.digitPair 2 true 0x15#7) = .ok (.lut7 2 true) ∧
    decode (.digitPair 2 true 0x7F#7) = .ok (.lut8 2 true) ∧
    decode (.digitPair 2 true 0x3F#7) = .ok (.lut9 2 true) ∧
    decode (.digitPair 2 true 0x7D#7) = .ok (.lut0 2 true) ∧
    decode (.digitPair 2 true 0x68#7) = .ok (.lutL 2 true) ∧
    decode (.digitPair 2 true 0x00#7) = .ok (.lutBlank 2 true) ∧
    decode (.digitPair 2 true 0x12#7) = .ok (.lutX 2 true 0x12#7) := by decide

/-- 30_encoding.md R68: the six positions; four others are refused. -/
theorem test_decode_flag_nibbles :
    decode (.flagNibble 0x15#8) = .ok (.flagsPos1 5#4) ∧
    decode (.flagNibble 0xA5#8) = .ok (.flagsPos10 5#4) ∧
    decode (.flagNibble 0xB5#8) = .ok (.flagsPos11 5#4) ∧
    decode (.flagNibble 0xC5#8) = .ok (.flagsPos12 5#4) ∧
    decode (.flagNibble 0xD5#8) = .ok (.flagsPos13 5#4) ∧
    decode (.flagNibble 0xE5#8) = .ok (.flagsPos14 5#4) ∧
    decode (.flagNibble 0x05#8) = .error (.notAFlagPosition 0#4) ∧
    decode (.flagNibble 0x2F#8) = .error (.notAFlagPosition 2#4) ∧
    decode (.flagNibble 0x9F#8) = .error (.notAFlagPosition 9#4) ∧
    decode (.flagNibble 0xFF#8) = .error (.notAFlagPosition 15#4) := by decide

/-- The one check of WellFormed refuses LUT_X on a listed key (30_encoding.md R64). -/
theorem test_wellFormed_refuses_listed_key : ¬ WellFormed (.lutX 0 false 0x5B#7) := by decide

theorem test_wellFormed_accepts_unlisted_key : WellFormed (.lutX 0 false 0x12#7) := by decide

/-! ## States and pins -/

/-- A build with F_CLK_HZ = 50,000,000 (70_reset_and_hazards.md R154). -/
def build : Build := { fifoDepth := 16, fClkHz := 50000000 }

/-- RESET_STATE with the pins of one cycle. -/
def idleAt (p : Pins) : State := { State.resetOf build with inputs := [p] }

def wr (a : Addr) (v : Word32) : Pins := { Pins.idle with busWr := true, busAddr := a, busWdata := v }

def rd (a : Addr) : Pins := { Pins.idle with busRd := true, busAddr := a }

def rx (b : Byte) (p : Pins) : Pins := { p with rxValid := true, rxData := b }

/-- A SYNC in its MARK phase, with these bytes waiting. -/
def markAt (p : Pins) (bytes : List Byte) : State :=
  { idleAt p with busy := true, phase := .mark, need := 1#4, fifo := bytes }

/-- A READ in the MARK phase of its first attempt's resynchronization. -/
def remarkAt (p : Pins) (bytes : List Byte) : State :=
  { markAt p bytes with ctx := .read, attempt := 1#4 }

/-- A SYNC in its DISC phase after a marker of position 12, `n` bytes discarded. -/
def discAt (p : Pins) (n : Nibble) (bytes : List Byte) : State :=
  { idleAt p with busy := true, phase := .disc, need := 2#4, cnt := n, marker := 12#4, fifo := bytes }

/-- A READ at the first cycle of its first CAP phase. -/
def capAt (p : Pins) (bytes : List Byte) : State :=
  { idleAt p with busy := true, ctx := .read, attempt := 1#4, phase := .cap, need := 14#4, fifo := bytes }

/-- The frame of V-E1 (95_test_vectors.md). -/
def frameE1 : Frame :=
  #v[0x10#8, 0x28#8, 0x35#8, 0x4D#8, 0x5B#8, 0x61#8, 0x7F#8, 0x82#8, 0x97#8, 0xA0#8, 0xB8#8, 0xC0#8, 0xD4#8, 0xE0#8]

/-- A READ in its first CAP phase that has captured the first thirteen bytes of V-E1. -/
def capLast (p : Pins) (bytes : List Byte) : State :=
  { capAt p bytes with cnt := 13#4, rxcnt := 13#4, tmr := 13#32, frame := frameE1.set 13 0#8 }

/-- A field of the next state a step answers. -/
def seen {α : Type} (f : State → α) (r : Result) : Option α :=
  match r with
  | .next s => some (f s)
  | _ => none

/-! ## Single steps with the results of 95_test_vectors.md -/

/-- V-B1, V-B2, V-B3: STATUS after a reserved OP and two NOPs. -/
theorem test_reserved_and_nop :
    seen statusWord (step (idleAt (wr 0x00#6 0x00000003#32))) = some 0x00000020#32 ∧
    seen statusWord (step (idleAt (wr 0x00#6 0x00000000#32))) = some 0x00000000#32 ∧
    seen statusWord (step (idleAt (wr 0x00#6 0xFFFFFFFC#32))) = some 0x00000000#32 := by decide

/-- V-B7, V-B8: write-one-to-clear. -/
theorem test_wrStatus_clears_named_bits :
    seen statusWord (step { idleAt (wr 0x04#6 0x62#32) with done := true, ign := true, ovr := true }) =
      some 0x00000000#32 ∧
    seen statusWord (step { idleAt (wr 0x04#6 0x20#32) with done := true, ign := true, ovr := true }) =
      some 0x00000042#32 := by decide

/-- V-B9: the SYNC completes in the cycle of the write-one-to-clear, and the set wins. -/
theorem test_set_beats_clear :
    seen statusWord (step (markAt (wr 0x04#6 0x02#32) [0xE0#8])) = some 0x00000002#32 := by decide

/-- V-B5: a CMD write in the cycle of the completion is ignored. -/
theorem test_command_in_completion_cycle_ignored :
    seen statusWord (step (markAt (wr 0x00#6 0x01#32) [0xE0#8])) = some 0x00000022#32 := by decide

/-- V-B11, V-B12: TIMEOUT and RETRY writes. -/
theorem test_config_writes :
    seen State.timeout (step (idleAt (wr 0x10#6 0x00000004#32))) = some 4#32 ∧
    seen State.retryLimit (step (idleAt (wr 0x0C#6 0xFFFFFFF5#32))) = some 5#4 := by decide

/-- V-B4: busy-guarded writes; IRQ_EN is not guarded. -/
theorem test_busy_guard :
    seen (fun s => (s.retryLimit, s.ign)) (step (markAt (wr 0x0C#6 7#32) [])) = some (3#4, true) ∧
    seen (fun s => (s.timeout, s.ign)) (step (markAt (wr 0x10#6 5#32) [])) = some (0x08F0D180#32, true) ∧
    seen (fun s => (s.doneIe, s.ign)) (step (markAt (wr 0x08#6 1#32) [])) = some (true, false) := by decide

/-- V-B10, V-B13, V-I2 and R13: bus_rdata. -/
theorem test_read_data :
    seen (fun s => s.out.rdata) (step (idleAt (rd 0x00#6))) = some 0#32 ∧
    seen (fun s => s.out.rdata) (step (idleAt (rd 0x34#6))) = some 0#32 ∧
    seen (fun s => s.out.rdata) (step { idleAt (rd 0x07#6) with done := true }) = some 2#32 ∧
    seen (fun s => s.out.rdata) (step (idleAt (rd 0x10#6))) = some 0x08F0D180#32 ∧
    seen (fun s => s.out.rdata) (step (idleAt { wr 0x38#6 1#32 with busRd := true, busAddr := 0x10#6 })) =
      some 0#32 := by decide

/-- V-E1: the views of the frame (95_test_vectors.md). -/
theorem test_views_of_E1 :
    digitsWord frameE1 = 0x04031211#32 ∧ flagsWord frameE1 = 0x00080400#32 ∧
    alignWord frameE1 = 0x00013FFF#32 ∧ frame0Word frameE1 = 0x4D352810#32 ∧
    frame1Word frameE1 = 0x827F615B#32 ∧ frame2Word frameE1 = 0xC0B8A097#32 ∧
    frame3Word frameE1 = 0x0000E0D4#32 := by decide

/-- V-A5, V-A6, V-T3: ALIGN with a wrong marker, DIGITS of the zero frame. -/
theorem test_views_corner_cases :
    alignWord (frameE1.set 13 0xD0#8) = 0x00001FFF#32 ∧ alignWord (frameE1.set 5 0x71#8) = 0x00003FDF#32 ∧
    digitsWord frameZero = 0x0B0B0B0B#32 := by decide

/-- V-T2: rows of the lookup table as instructions on cell 0. -/
theorem test_lookup_rows :
    seen (fun s => s.out.cells[0]) (exec (.lut1 0 true) State.reset) = some 0x11#8 ∧
    seen (fun s => s.out.cells[0]) (exec (.lut0 0 true) State.reset) = some 0x10#8 ∧
    seen (fun s => s.out.cells[0]) (exec (.lutL 0 false) State.reset) = some 0x0A#8 ∧
    seen (fun s => s.out.cells[0]) (exec (.lutX 0 false 0x12#7) State.reset) = some 0x0F#8 := by decide

/-- V-F1, V-F2: rows of the flag multiplexer as instructions. -/
theorem test_flag_rows :
    seen (fun s => s.out.flags) (exec (.flagsPos1 0xF#4) State.reset) = some 0x0000000F#32 ∧
    seen (fun s => s.out.flags) (exec (.flagsPos10 0xF#4) State.reset) = some 0x00400B00#32 ∧
    seen (fun s => s.out.flags) (exec (.flagsPos11 0xF#4) State.reset) = some 0x00201410#32 ∧
    seen (fun s => s.out.flags) (exec (.flagsPos12 0xB#4) State.reset) = some 0x00010060#32 ∧
    seen (fun s => s.out.flags) (exec (.flagsPos13 0xF#4) State.reset) = some 0x011C0000#32 ∧
    seen (fun s => s.out.flags) (exec (.flagsPos14 0x8#4) State.reset) = some 0x02000000#32 := by decide

/-- V-S1, V-S2, V-S5, V-S6: the marker byte. -/
theorem test_marker_byte :
    seen (fun s => (s.phase, s.need, s.fifo)) (step (markAt Pins.idle [0xC0#8, 0xD4#8])) =
      some (.disc, 2#4, [0xD4#8]) ∧
    seen statusWord (step (markAt Pins.idle [0xE0#8, 0x10#8])) = some 0x00000102#32 ∧
    seen (fun s => (statusWord s, resultWord s)) (step (markAt Pins.idle [0x05#8])) =
      some (0x0000000A#32, 0#32) ∧
    seen (fun s => (statusWord s, resultWord s)) (step (markAt Pins.idle [0xF3#8])) =
      some (0x0000000A#32, 0x000F0000#32) := by decide

/-- V-S7, V-S9: timeouts in the phase's cycle TIMEOUT + 1 and not before. -/
theorem test_timeouts :
    seen statusWord (step { markAt Pins.idle [] with timeout := 3#32, tmr := 3#32 }) = some 0x00000006#32 ∧
    seen (fun s => (s.phase, s.tmr)) (step { markAt Pins.idle [] with timeout := 3#32, tmr := 2#32 }) =
      some (.mark, 3#32) ∧
    seen statusWord (step { discAt Pins.idle 1#4 [] with timeout := 2#32, tmr := 2#32 }) =
      some 0x00000002#32 := by decide

/-- V-R1: the fourteenth byte of V-E1 completes the READ. -/
theorem test_capture_success :
    seen (fun s => (statusWord s, resultWord s, s.frame)) (step (capLast Pins.idle [0xE0#8])) =
      some (0x00040012#32, 0x00000E01#32, frameE1) := by decide

/-- V-A5: a wrong fourteenth marker begins a resynchronization (43_read.md R120, R123). -/
theorem test_capture_misaligned :
    seen (fun s => (s.phase, s.need, s.valid, s.rxcnt)) (step (capLast Pins.idle [0xD0#8])) =
      some (.mark, 1#4, false, 14#4) := by decide

/-- V-E4: the resynchronization after the last attempt reports READ_FAILURE; V-R4: an invalid marker there. -/
theorem test_last_resynchronization :
    seen statusWord (step { remarkAt Pins.idle [0xE0#8] with retryLimit := 1#4 }) = some 0x0004000E#32 ∧
    seen statusWord (step (remarkAt Pins.idle [0xF3#8])) = some 0x0004000A#32 ∧
    seen (fun s => (s.phase, s.attempt)) (step (remarkAt Pins.idle [0xE0#8])) = some (.cap, 2#4) := by decide

/-- V-R2: a READ with RETRY_LIMIT = 0 completes in the acceptance cycle. -/
theorem test_read_without_budget :
    seen (fun s => (statusWord s, resultWord s)) (step { idleAt (wr 0x00#6 2#32) with retryLimit := 0#4 }) =
      some (0x0004000E#32, 0#32) := by decide

/-- V-Q1, V-Q2, V-Q3: the FIFO of depth 2. -/
theorem test_fifo_depth_two :
    seen (fun s => (s.fifo, s.ovr))
      (step { idleAt (rx 3#8 Pins.idle) with build := { build with fifoDepth := 2 }, fifo := [1#8, 2#8] }) =
      some ([1#8, 2#8], true) ∧
    seen (fun s => (s.fifo, s.ovr, statusWord s))
      (step { capAt (rx 0x3C#8 Pins.idle) [0x1A#8, 0x2B#8] with build := { build with fifoDepth := 2 } }) =
      some ([0x2B#8, 0x3C#8], false, 0x00070201#32) ∧
    seen statusWord
      (step { idleAt (rx 0x3C#8 (wr 0#6 2#32)) with
        build := { build with fifoDepth := 2 }, fifo := [0x1A#8, 0x2B#8] }) = some 0x00070241#32 := by decide

/-- V-I1, V-I5: reset abandons a READ and ignores the byte and the write of its cycle. -/
theorem test_reset_cycle :
    step (capLast { rx 5#8 (wr 0x04#6 2#32) with rst := true } [1#8]) = .next (State.resetOf build) := rfl

/-- V-I3, V-I4: irq follows DONE and DONE_IE. -/
theorem test_irq :
    seen State.irq (step { markAt Pins.idle [0xE0#8] with doneIe := true }) = some true ∧
    seen (fun s => (s.irq, s.done)) (step { idleAt (wr 0x08#6 0#32) with done := true, doneIe := true }) =
      some (false, true) := by decide

/-- A word of the opcode table is what the next step runs: SYNC, a frame byte, a digit pair (log 11). -/
theorem test_withFetchWord :
    seen (fun s => s.phase) (step (State.reset.withFetchWord 32 0x00000001)) = some .mark ∧
    seen (fun s => (s.phase, s.need)) (step (State.reset.withFetchWord 8 0x40)) = some (.disc, 10#4) ∧
    seen (fun s => s.out.cells[0]) (step (State.reset.withFetchWord 8 0x5B)) = some 0x02#8 ∧
    seen (fun s => s.out.rdata) (step (State.reset.withFetchWord 8 0x18)) = some 0x0B0B0B0B#32 ∧
    decodeTableWord 8 0x18 = some (.rdDigits 0#2) ∧ decodeTableWord 8 0xE0 = some (.fbPos14 0#4) := by decide

/-! ## Witnesses: states that meet the hypotheses of the statements -/

theorem inv_mark : Inv (markAt (wr 0x04#6 2#32) [0xE0#8]) := by constructor <;> decide

theorem inv_disc : Inv (discAt Pins.idle 1#4 [0x00#8]) := by constructor <;> decide

theorem inv_cap : Inv (capAt Pins.idle [0x10#8]) := by constructor <;> decide

theorem inv_capLast : Inv (capLast Pins.idle [0xE0#8]) := by constructor <;> decide

/-- A completed SYNC whose interrupt is enabled. -/
def doneAt (p : Pins) : State := { idleAt p with done := true, doneIe := true, marker := 14#4 }

theorem inv_done : Inv (doneAt (wr 0x04#6 2#32)) := by constructor <;> decide

theorem witness_OffsetLowBitsIgnored : (0x04#6).extractLsb' 2 4 = (0x07#6).extractLsb' 2 4 := by decide

theorem witness_DecodeEncodeRoundTrip : WellFormed (.lutX 3 true 0x01#7) := by decide

theorem witness_EncodeDecodeRoundTrip : decode (.busWrite 0x3F#6 0xFFFFFFFF#32) = .ok (.wrUnmapped3C 3#2 0xFFFFFFFF#32) := by
  decide

theorem witness_SyncAccepted : State.reset.busy = false := rfl

theorem witness_ReadAccepted : State.reset.busy = false ∧ State.reset.retryLimit ≠ 0#4 := by decide

theorem witness_ReadWithNoRetryBudgetFails :
    ∃ s : State, s.busy = false ∧ s.retryLimit = 0#4 := ⟨{ State.reset with retryLimit := 0#4 }, rfl, rfl⟩

theorem witness_BusyWritesIgnored : ∃ s : State, s.busy = true := ⟨markAt Pins.idle [], rfl⟩

/-- For InvalidMarkerBytes, MarkerFourteenEndsSync and MarkerBeginsDiscard. -/
theorem witness_mark_phase : ∃ s : State, s.phase = .mark := ⟨markAt Pins.idle [], rfl⟩

theorem witness_SyncDoneOutcomes_sync : ∃ s : State, s.ctx = .sync := ⟨markAt Pins.idle [], rfl⟩

theorem witness_SyncDoneOutcomes_next_attempt :
    ∃ s : State, s.ctx = .read ∧ s.attempt.toNat < s.retryLimit.toNat :=
  ⟨{ remarkAt Pins.idle [] with attempt := 14#4, retryLimit := 15#4 }, by decide⟩

theorem witness_SyncDoneOutcomes_exhausted :
    ∃ s : State, s.ctx = .read ∧ s.retryLimit.toNat ≤ s.attempt.toNat :=
  ⟨{ remarkAt Pins.idle [] with retryLimit := 1#4 }, by decide⟩

theorem witness_DiscardedBytes_last : ∃ s : State, s.phase = .disc ∧ s.cnt.toNat + 1 = s.need.toNat :=
  ⟨discAt Pins.idle 1#4 [], by decide⟩

theorem witness_DiscardedBytes_earlier : ∃ s : State, s.phase = .disc ∧ s.cnt.toNat + 1 < s.need.toNat :=
  ⟨discAt Pins.idle 0#4 [], by decide⟩

theorem witness_CapturedBytes_before_last : ∃ s : State, s.phase = .cap ∧ s.cnt.toNat < 13 :=
  ⟨{ capAt Pins.idle [] with cnt := 12#4 }, by decide⟩

theorem witness_CapturedBytes_aligned : (capLast Pins.idle []).phase = .cap ∧ (capLast Pins.idle []).cnt = 13#4 ∧
    ∀ i : Fin 14, pos ((capLast Pins.idle []).frame.set 13 (byteOf 14#4 0#4))[i] = BitVec.ofNat 4 (i.val + 1) := by
  decide

theorem witness_CapturedBytes_misaligned : (capLast Pins.idle []).phase = .cap ∧ (capLast Pins.idle []).cnt = 13#4 ∧
    ∃ i : Fin 14, pos ((capLast Pins.idle []).frame.set 13 (byteOf 13#4 0#4))[i] ≠ BitVec.ofNat 4 (i.val + 1) := by
  decide

theorem witness_LookupTable_unlisted : (0x01#7 : BitVec 7) ∉ [0x05#7, 0x5B#7, 0x1F#7, 0x27#7, 0x3E#7, 0x7E#7, 0x15#7,
    0x7F#7, 0x3F#7, 0x7D#7, 0x68#7, 0x00#7] := by decide

theorem witness_DigitsAndFlagsAreDisjoint_digits :
    ∀ i : Fin 14, 1 ≤ i.val → i.val ≤ 8 → low frameE1[i] = low (frameE1.set 9 0xAF#8)[i] := by decide

theorem witness_DigitsAndFlagsAreDisjoint_flags :
    ∀ i : Fin 14, i.val = 0 ∨ 9 ≤ i.val → low frameE1[i] = low (frameE1.set 8 0x9F#8)[i] := by decide

theorem witness_WaitingByteBeatsTimeout_byte :
    ∃ (s : State) (b : Byte) (rest : List Byte) (i : Instr), s.fifo = b :: rest ∧ s.timeout ≤ s.tmr ∧
      decode (.frameByte b) = .ok i :=
  ⟨{ markAt Pins.idle [0xE0#8] with timeout := 0#32 }, 0xE0#8, [], .fbPos14 0#4, by decide⟩

theorem witness_WaitingByteBeatsTimeout_empty :
    ∃ s : State, s.fifo = [] ∧ s.tmr.toNat < s.timeout.toNat :=
  ⟨{ markAt Pins.idle [] with timeout := 3#32, tmr := 2#32 }, by decide⟩

theorem witness_PhaseTimeouts :
    (∃ s : State, s.fifo = [] ∧ s.timeout.toNat ≤ s.tmr.toNat ∧ s.phase = .mark) ∧
    (∃ s : State, s.fifo = [] ∧ s.timeout.toNat ≤ s.tmr.toNat ∧ s.phase = .disc) ∧
    (∃ s : State, s.fifo = [] ∧ s.timeout.toNat ≤ s.tmr.toNat ∧ s.phase = .cap) :=
  ⟨⟨{ markAt Pins.idle [] with timeout := 3#32, tmr := 3#32 }, by decide⟩,
   ⟨{ discAt Pins.idle 1#4 [] with timeout := 0#32 }, by decide⟩,
   ⟨{ capAt Pins.idle [] with timeout := 0#32 }, by decide⟩⟩

theorem witness_StepRunsTheHostAccess : (idleAt (rd 0x04#6)).inputs = [rd 0x04#6] ∧ (rd 0x04#6).rst = false ∧
    busCode (rd 0x04#6) = some (.busRead 0x04#6) ∧ decode (.busRead 0x04#6) = .ok (.rdStatus 0#2) := by decide

theorem witness_StepRunsTheHostAccess_none : (idleAt Pins.idle).inputs = [Pins.idle] ∧ Pins.idle.rst = false ∧
    busCode Pins.idle = none := by decide

theorem witness_ResetCycleGivesResetState :
    (nextPins (capLast { Pins.idle with rst := true } [])).1.rst = true := rfl

theorem witness_EveryStepTakesOnePinRecord : ∃ s t : State, step s = .next t ∧ s.inputs ≠ [] :=
  ⟨idleAt (rd 0x04#6), _, rfl, by decide⟩

theorem witness_StepIsThePseudocodeCycle :
    (markAt Pins.idle []).busy = true ↔ (markAt Pins.idle []).phase ≠ .idle := by decide

theorem witness_InvariantKeptByEveryStep :
    ∃ s t : State, Inv s ∧ step s = .next t := ⟨_, _, inv_capLast, rfl⟩

/-- Full after the pop, and one place left (20_memory.md R53). -/
theorem witness_PushAfterPop :
    (∃ s t : State, (nextPins s).1.rst = false ∧ step s = .next t ∧ (nextPins s).1.rxValid = false) ∧
    (∃ s t : State, (nextPins s).1.rst = false ∧ step s = .next t ∧ (nextPins s).1.rxValid = true ∧
      s.phase ≠ .idle ∧ (s.fifo.drop 1).length < s.build.fifoDepth) ∧
    (∃ s t : State, (nextPins s).1.rst = false ∧ step s = .next t ∧ (nextPins s).1.rxValid = true ∧
      s.phase = .idle ∧ s.build.fifoDepth ≤ s.fifo.length) :=
  ⟨⟨idleAt Pins.idle, _, rfl, rfl, rfl⟩,
   ⟨{ capAt (rx 0x3C#8 Pins.idle) [0x1A#8, 0x2B#8] with build := { build with fifoDepth := 2 } }, _, rfl, rfl, rfl,
     by decide, by decide⟩,
   ⟨{ idleAt (rx 3#8 Pins.idle) with build := { build with fifoDepth := 2 }, fifo := [1#8, 2#8] }, _, rfl, rfl, rfl,
     rfl, by decide⟩⟩

theorem witness_BusyFallsOnlyWithDone :
    ∃ s t : State, (nextPins s).1.rst = false ∧ step s = .next t ∧ s.busy = true ∧ t.busy = false :=
  ⟨markAt (wr 0x04#6 2#32) [0xE0#8], _, rfl, rfl, rfl, rfl⟩

theorem witness_ConfigurationFixedWhileBusy :
    ∃ s t : State, (nextPins s).1.rst = false ∧ step s = .next t ∧ s.busy = true :=
  ⟨markAt (wr 0x0C#6 7#32) [], _, rfl, rfl, rfl⟩

theorem witness_SyncLeavesResults :
    ∃ s t : State, Inv s ∧ s.busy = true ∧ s.ctx = .sync ∧ (nextPins s).1.rst = false ∧ step s = .next t :=
  ⟨_, _, inv_disc, rfl, rfl, rfl, rfl⟩

theorem witness_IdleCycleOnlyPushes :
    ∃ s t : State, s.phase = .idle ∧ (nextPins s).1.rst = false ∧ (nextPins s).1.busWr = false ∧ step s = .next t :=
  ⟨idleAt (rx 7#8 (rd 0x04#6)), _, rfl, rfl, rfl, rfl⟩

theorem witness_HostCannotDisturbACommand :
    ∃ (s : State) (p q : Pins), Inv s ∧ s.busy = true ∧ p.rst = false ∧ q.rst = false ∧ p.rxValid = q.rxValid ∧
      p.rxData = q.rxData ∧ p ≠ q :=
  ⟨_, wr 0x00#6 2#32, Pins.idle, inv_cap, rfl, rfl, rfl, rfl, rfl, by decide⟩

theorem witness_InterruptFollowsDone_falls :
    ∃ s t : State, Inv s ∧ (nextPins s).1.rst = false ∧ step s = .next t ∧ s.irq = true ∧ t.irq = false :=
  ⟨_, _, inv_done, rfl, rfl, rfl, rfl⟩

theorem inv_mark_enabled : Inv { markAt Pins.idle [0xE0#8] with doneIe := true } := by constructor <;> decide

theorem witness_InterruptFollowsDone_rises :
    ∃ s t : State, Inv s ∧ (nextPins s).1.rst = false ∧ step s = .next t ∧ s.irq = false ∧ t.irq = true :=
  ⟨_, _, inv_mark_enabled, rfl, rfl, rfl, rfl⟩

theorem witness_PhasesEndInTime : ∃ s : State, Inv s ∧ s.phase ≠ .idle := ⟨_, inv_disc, by decide⟩

theorem witness_SyncCompletesInTime : ∃ s : State, Inv s ∧ s.ctx = .sync ∧ s.phase = .mark ∧ s.tmr = 0#32 :=
  ⟨_, inv_mark, rfl, rfl, rfl⟩

theorem witness_ReadCompletesInTime : ∃ s : State, Inv s ∧ s.phase = .cap ∧ s.cnt = 0#4 ∧ s.tmr = 0#32 :=
  ⟨_, inv_cap, rfl, rfl, rfl⟩

/-- A SYNC with V-S1's bytes waiting and three cycles' pins placed; p = 12. -/
def syncWaiting : State :=
  { markAt Pins.idle [0xC0#8, 0xD4#8, 0xE0#8, 0x10#8] with inputs := [Pins.idle, wr 0x04#6 2#32, Pins.idle] }

theorem inv_syncWaiting : Inv syncWaiting := by constructor <;> decide

theorem witness_SyncOfWaitingBytes :
    Inv syncWaiting ∧ syncWaiting.ctx = .sync ∧ syncWaiting.phase = .mark ∧
    syncWaiting.inputs = [Pins.idle, wr 0x04#6 2#32, Pins.idle] ++ [] ∧
    (∀ p ∈ [Pins.idle, wr 0x04#6 2#32, Pins.idle], p.rst = false) ∧
    syncWaiting.fifo = 0xC0#8 :: ([0xD4#8, 0xE0#8] ++ [0x10#8]) ∧ 1 ≤ (pos 0xC0#8).toNat ∧
    (pos 0xC0#8).toNat ≤ 13 ∧ [0xD4#8, 0xE0#8].length = 14 - (pos 0xC0#8).toNat ∧
    [Pins.idle, wr 0x04#6 2#32, Pins.idle].length = 15 - (pos 0xC0#8).toNat :=
  ⟨inv_syncWaiting, by decide⟩

/-- A READ with the frame of V-E1 waiting and fourteen cycles' pins placed. -/
def frameWaiting : State :=
  { capAt Pins.idle frameE1.toList with inputs := List.replicate 14 Pins.idle }

theorem inv_frameWaiting : Inv frameWaiting := by constructor <;> decide

theorem witness_ReadOfAWaitingFrame :
    Inv frameWaiting ∧ frameWaiting.phase = .cap ∧ frameWaiting.cnt = 0#4 ∧
    frameWaiting.inputs = List.replicate 14 Pins.idle ++ [] ∧ (∀ p ∈ List.replicate 14 Pins.idle, p.rst = false) ∧
    (List.replicate 14 Pins.idle).length = 14 ∧ frameWaiting.fifo = frameE1.toList ++ [] ∧
    frameE1.toList.length = 14 ∧ ∀ i < 14, pos (frameE1.toList.getD i 0#8) = BitVec.ofNat 4 (i + 1) :=
  ⟨inv_frameWaiting, by decide⟩

end Sys2Proof.Tests
end

section
/-! PROOFS. The fields that are the model's own (logs 2, 3, 4, 16) along a cycle: taking the pins moves them, and
nothing later in the cycle does. -/

namespace Sys2Proof.Machine

/-! ## The cycle by cases -/

/-- Everything a step can do (40_dispatch.md R74): a cycle with rst = 1, or one of the listed host changes, then the
sequencer unless the phase at the start is IDLE, then the push. -/
theorem step_cases {s t : State} (h : step s = .next t) :
    ((nextPins s).1.rst = true ∧ t = resetCycle (nextPins s).2) ∨
    ((nextPins s).1.rst = false ∧ ∃ u, HostChange (settled (nextPins s).2) u ∧
      hostAccess (nextPins s).1 (settled (nextPins s).2) = .next u ∧
      t = push (nextPins s).1 (if (nextPins s).2.phase = .idle then u else turn u)) := by
  change (if (nextPins s).1.rst then .next (resetCycle (nextPins s).2)
    else runCycle (nextPins s).1 (nextPins s).2 : Result) = .next t at h
  cases hr : (nextPins s).1.rst with
  | true =>
    rw [hr] at h
    cases h
    exact .inl ⟨rfl, rfl⟩
  | false =>
    obtain ⟨u, hc, ha, hrun⟩ := runCycle_cases (nextPins s).1 (nextPins s).2
    rw [hr, if_neg Bool.false_ne_true, hrun] at h
    cases h
    exact .inr ⟨rfl, u, hc, ha, rfl⟩

/-! ## Taking the pins -/

@[simp] theorem nextPins_build (s : State) : (nextPins s).2.build = s.build := by
  unfold nextPins
  split <;> rfl

/-- A cycle takes the first placed record, if there is one (log 2). -/
@[simp] theorem nextPins_inputs (s : State) : (nextPins s).2.inputs = s.inputs.drop 1 := by
  unfold nextPins
  split <;> next h => rw [h]; rfl

/-- A cycle draws its pins exactly when none are placed (log 3). -/
@[simp] theorem nextPins_draws (s : State) :
    (nextPins s).2.draws = if s.inputs = [] then s.draws + 1 else s.draws := by
  unfold nextPins
  split
  · next p rest h => rw [h, if_neg (List.cons_ne_nil p rest)]
  · next h => rw [if_pos h]

/-! ## The rest of the cycle -/

/-- The fields that only `nextPins` may change: the build, the pins to come, the draw counter. -/
def State.ownFields (s : State) : Build × List Pins × Nat := (s.build, s.inputs, s.draws)

theorem ownFields_eq_iff {s t : State} :
    t.ownFields = s.ownFields ↔ t.build = s.build ∧ t.inputs = s.inputs ∧ t.draws = s.draws := by
  simp only [State.ownFields, Prod.mk.injEq]

@[simp] theorem nextAttempt_ownFields (s : State) : (nextAttempt s).ownFields = s.ownFields := by
  obtain ⟨-, e⟩ | ⟨-, e⟩ := nextAttempt_cases s <;> rw [e] <;> rfl

@[simp] theorem syncDone_ownFields (s : State) : (syncDone s).ownFields = s.ownFields := by
  obtain ⟨-, e⟩ | ⟨-, e⟩ := syncDone_cases s <;> rw [e]
  · rfl
  · exact nextAttempt_ownFields s

@[simp] theorem captureDone_ownFields (s : State) : (captureDone s).ownFields = s.ownFields := by
  obtain ⟨-, e⟩ | ⟨-, e⟩ := captureDone_cases s <;> rw [e] <;> rfl

@[simp] theorem capByte_ownFields (b : Byte) (s : State) : (capByte b s).ownFields = s.ownFields := by
  obtain ⟨-, e⟩ | ⟨-, e⟩ := capByte_cases b s <;> rw [e]
  · exact captureDone_ownFields (storeByte b s)
  · rfl

@[simp] theorem discByte_ownFields (s : State) : (discByte s).ownFields = s.ownFields := by
  obtain ⟨-, e⟩ | ⟨-, e⟩ := discByte_cases s <;> rw [e]
  · exact syncDone_ownFields s
  · rfl

@[simp] theorem markByte_ownFields (p : Nibble) (s : State) : (markByte p s).ownFields = s.ownFields := by
  unfold markByte
  split
  · rfl
  · split
    · exact syncDone_ownFields { s with marker := 14#4 }
    · rfl

@[simp] theorem phaseByte_markByte_ownFields (p : Nibble) (b : Byte) (s : State) :
    (phaseByte (markByte p) b s).ownFields = s.ownFields := by
  obtain ⟨-, e⟩ | ⟨-, e⟩ | ⟨-, e⟩ | ⟨-, e⟩ := phaseByte_cases (markByte p) b s <;> rw [e]
  · exact markByte_ownFields p s
  · exact discByte_ownFields s
  · exact capByte_ownFields b s

@[simp] theorem emptyCycle_ownFields (s : State) : (emptyCycle s).ownFields = s.ownFields := by
  obtain ⟨-, e⟩ | ⟨-, ⟨-, e⟩ | ⟨-, e⟩ | ⟨-, e⟩ | ⟨-, e⟩⟩ := emptyCycle_cases s <;> rw [e]
  case inr.inr.inr.inl => exact syncDone_ownFields s
  all_goals rfl

@[simp] theorem turn_ownFields (s : State) : (turn s).ownFields = s.ownFields := by
  unfold turn
  split
  · next b rest _ => exact phaseByte_markByte_ownFields (pos b) b { s with fifo := rest }
  · exact emptyCycle_ownFields s

@[simp] theorem push_ownFields (p : Pins) (s : State) : (push p s).ownFields = s.ownFields := by
  obtain ⟨-, e⟩ | ⟨-, -, e⟩ | ⟨-, -, e⟩ := push_cases p s <;> rw [e] <;> rfl

theorem HostChange.ownFields_eq {s t : State} (h : HostChange s t) : t.ownFields = s.ownFields := by
  cases h with
  | startRead _ => exact nextAttempt_ownFields _
  | _ => rfl

/-- After the pins are taken, neither a reset (log 16) nor any other cycle touches the model's own fields. -/
theorem step_ownFields {s t : State} (h : step s = .next t) : t.ownFields = (nextPins s).2.ownFields := by
  obtain ⟨-, rfl⟩ | ⟨-, u, hc, -, rfl⟩ := step_cases h
  · rfl
  · have hu : u.ownFields = (nextPins s).2.ownFields := hc.ownFields_eq
    rw [push_ownFields]
    split
    · exact hu
    · rw [turn_ownFields, hu]

/-- Settles O41: taking the pins is the only change to the three fields, and `nextPins` takes one record. -/
theorem everyStepTakesOnePinRecord : Obligations.EveryStepTakesOnePinRecord := by
  intro s t h
  obtain ⟨hbuild, hinputs, hdraws⟩ := ownFields_eq_iff.mp (step_ownFields h)
  exact ⟨hbuild.trans (nextPins_build s), hinputs.trans (nextPins_inputs s), hdraws.trans (nextPins_draws s)⟩

end Sys2Proof.Machine
end

section
/-! PROOFS. The invariant: it holds at reset, every part of a cycle keeps it, and so does the step. -/

namespace Sys2Proof.Machine

section
variable {s t : State}

/-! ## The parts of the invariant that the operations hand on -/

/-- What the invariant says of the results and the FIFO, whatever runs. -/
structure ResultsOk (s : State) : Prop where
  /-- 42_frame_decode.md R99. -/
  valid_is_aligned : s.valid = true → aligned s.frame = true ∧ s.rxcnt = 14#4
  /-- 10_state.md R29. -/
  rxcnt_in_range : s.rxcnt.toNat ≤ 14
  /-- 10_state.md R27. -/
  frame_tail_is_zero : ∀ i : Fin 14, s.rxcnt.toNat ≤ i.val → s.frame[i] = 0#8
  /-- 10_state.md R26. -/
  fifo_fits : s.fifo.length ≤ s.build.fifoDepth
  /-- 00_scope.md R5. -/
  build_is_legal : s.build.wf

/-- A command is under way, between two of its phases or in one (40_dispatch.md R77, 43_read.md R116). -/
structure Running (s : State) : Prop where
  /-- 10_state.md R19. -/
  is_busy : s.busy = true
  /-- 40_dispatch.md R77. -/
  no_outcome : s.done = false ∧ s.err = .none
  /-- 43_read.md R116. -/
  no_frame : s.ctx = .read → s.valid = false

/-- The attempts of a READ are within its budget (43_read.md R117). -/
def InBudget (s : State) : Prop :=
  s.ctx = .read → 1 ≤ s.attempt.toNat ∧ s.attempt.toNat ≤ s.retryLimit.toNat

theorem Inv.resultsOk (h : Inv s) : ResultsOk s := { h with }

theorem Inv.running (h : Inv s) (hne : s.phase ≠ .idle) : Running s where
  is_busy := h.busy_iff_running.mpr hne
  no_outcome := h.no_outcome_while_running hne
  no_frame := h.no_frame_while_reading hne

theorem Inv.inBudget (h : Inv s) (hne : s.phase ≠ .idle) : InBudget s := h.attempt_in_budget hne

/-- A running READ may only complete with an error, since VALID is 0 (43_read.md R126). -/
theorem Running.valid_iff_none {e : Err} (h : Running s) (he : e ≠ .none) (hread : s.ctx = .read) :
    s.valid = true ↔ e = .none :=
  iff_of_false (by simp [h.no_frame hread]) he

theorem Inv.idle_of_not_busy (h : Inv s) (hb : s.busy = false) : s.phase = .idle := by
  by_contra hne
  rw [h.busy_iff_running.mpr hne] at hb
  cases hb

/-! ## Reset -/

theorem inv_resetOf {b : Build} (hb : b.wf) : Inv (State.resetOf b) where
  busy_iff_running := by simp
  idle_is_quiet _ := ⟨rfl, rfl, rfl⟩
  count_below_need hne := absurd rfl hne
  need_in_mark := nofun
  need_in_disc := nofun
  need_in_cap := nofun
  attempt_in_budget hne := absurd rfl hne
  no_frame_while_reading hne := absurd rfl hne
  valid_is_aligned := nofun
  rxcnt_in_range := by simp
  frame_tail_is_zero i _ := Vector.getElem_replicate i.isLt
  no_outcome_while_running hne := absurd rfl hne
  read_outcome := nofun
  invalid_marker_outcome := nofun
  fifo_fits := Nat.zero_le _
  build_is_legal := hb

theorem inv_resetCycle (h : Inv s) : Inv (resetCycle s) := { inv_resetOf h.build_is_legal with }

/-! ## Completion and the start of a phase -/

/-- A command may complete with `e` where `e` fits VALID and MARKER (40_dispatch.md R80, 60_exceptions.md R131). -/
theorem inv_complete {e : Err} (h : ResultsOk s) (hread : s.ctx = .read → (s.valid = true ↔ e = .none))
    (hmarker : e = .invalidMarker → s.marker = 0#4 ∨ s.marker = 15#4) : Inv (complete e s) where
  __ := h
  busy_iff_running := by simp
  idle_is_quiet _ := ⟨rfl, rfl, rfl⟩
  count_below_need hne := absurd rfl hne
  need_in_mark := nofun
  need_in_disc := nofun
  need_in_cap := nofun
  attempt_in_budget hne := absurd rfl hne
  no_frame_while_reading hne := absurd rfl hne
  no_outcome_while_running hne := absurd rfl hne
  read_outcome _ := hread
  invalid_marker_outcome _ := hmarker

/-- A running command may begin a phase whose NEED is legal (40_dispatch.md R79, 10_state.md R25). -/
theorem inv_beginPhase {ph : Phase} {n : Nibble} (h : ResultsOk s) (hrun : Running s) (hbudget : InBudget s)
    (hph : ph ≠ .idle) (hn : 0#4 < n) (hmark : ph = .mark → n = 1#4)
    (hdisc : ph = .disc → 1 ≤ s.marker.toNat ∧ s.marker.toNat ≤ 13 ∧ n.toNat = 14 - s.marker.toNat)
    (hcap : ph = .cap → n = 14#4 ∧ s.ctx = .read ∧ s.rxcnt = 0#4) : Inv (beginPhase ph n s) where
  __ := h
  busy_iff_running := iff_of_true hrun.is_busy hph
  idle_is_quiet hidle := absurd hidle hph
  count_below_need _ := hn
  need_in_mark := hmark
  need_in_disc := hdisc
  need_in_cap := hcap
  attempt_in_budget _ := hbudget
  no_frame_while_reading _ := hrun.no_frame
  no_outcome_while_running _ := hrun.no_outcome
  read_outcome hdone := by simp [hrun.no_outcome.1] at hdone
  invalid_marker_outcome hdone := by simp [hrun.no_outcome.1] at hdone

theorem inv_beginPhase_mark (h : ResultsOk s) (hrun : Running s) (hbudget : InBudget s) :
    Inv (beginPhase .mark 1#4 s) :=
  inv_beginPhase h hrun hbudget (by decide) (by decide) (fun _ => rfl) nofun nofun

/-- A counter below another nibble does not wrap. -/
theorem toNat_add_one_of_lt {c n : Nibble} (h : c < n) : (c + 1#4).toNat = c.toNat + 1 := by
  have hnat : c.toNat < n.toNat := h
  have hmax := n.isLt
  simp only [BitVec.toNat_add, BitVec.toNat_ofNat]
  omega

/-- NextAttempt keeps ATTEMPT within RETRY_LIMIT, or gives up (43_read.md R117). -/
theorem inv_nextAttempt (h : ResultsOk s) (hrun : Running s) (hctx : s.ctx = .read) : Inv (nextAttempt s) := by
  have hvalid : s.valid = false := hrun.no_frame hctx
  obtain ⟨hlt, e⟩ | ⟨-, e⟩ := nextAttempt_cases s <;> rw [e]
  · refine inv_beginPhase (ph := .cap) (n := 14#4)
      (s := { s with attempt := s.attempt + 1#4, frame := frameZero, rxcnt := 0#4 })
      { h with
        valid_is_aligned := fun hv => by simp [hvalid] at hv
        rxcnt_in_range := by simp
        frame_tail_is_zero := fun i _ => Vector.getElem_replicate i.isLt }
      { hrun with } ?_ (by decide) (by decide) nofun nofun (fun _ => ⟨rfl, hctx, rfl⟩)
    intro _
    rw [toNat_add_one_of_lt hlt]
    exact ⟨Nat.le_add_left 1 _, hlt⟩
  · exact inv_complete h (hrun.valid_iff_none (by decide)) nofun

theorem inv_syncDone (h : ResultsOk s) (hrun : Running s) : Inv (syncDone s) := by
  obtain ⟨hctx, e⟩ | ⟨hctx, e⟩ := syncDone_cases s <;> rw [e]
  · exact inv_complete h (fun hread => by simp [hctx] at hread) nofun
  · exact inv_nextAttempt h hrun hctx

/-! ## The byte a phase consumes -/

theorem inv_markByte {p : Nibble} (h : Inv s) (hph : s.phase = .mark) : Inv (markByte p s) := by
  have hne : s.phase ≠ .idle := by simp [hph]
  have hres : ResultsOk { s with marker := p } := { h.resultsOk with }
  have hrun : Running { s with marker := p } := { h.running hne with }
  unfold markByte
  split
  · next hp => exact inv_complete hres (hrun.valid_iff_none (by decide)) (fun _ => hp)
  · next hp =>
    split
    · next hlast => subst hlast; exact inv_syncDone hres hrun
    · next hlast =>
      obtain ⟨hlow, hhigh⟩ : 1 ≤ p.toNat ∧ p.toNat ≤ 13 := by
        simp only [← BitVec.toNat_inj, BitVec.toNat_ofNat] at hp hlast
        omega
      have hneed : (14#4 - p).toNat = 14 - p.toNat :=
        BitVec.toNat_sub_of_le (x := 14#4) (Nat.le_succ_of_le hhigh)
      have hpos : 0 < (14#4 - p).toNat := by omega
      exact inv_beginPhase hres hrun (h.inBudget hne) (by decide) hpos nofun (fun _ => ⟨hlow, hhigh, hneed⟩) nofun

theorem inv_tick (h : Inv s) (hne : s.phase ≠ .idle) : Inv (tick s) :=
  { h with idle_is_quiet := fun hidle => absurd hidle hne }

/-- A phase that has not consumed all its bytes counts one more (10_state.md R25). -/
theorem count_succ_lt_need {c n : Nibble} (h : c < n) (hlast : c.toNat + 1 ≠ n.toNat) : c + 1#4 < n := by
  have hnat : c.toNat < n.toNat := h
  rw [BitVec.lt_def, toNat_add_one_of_lt h]
  omega

theorem inv_discByte (h : Inv s) (hph : s.phase = .disc) : Inv (discByte s) := by
  have hne : s.phase ≠ .idle := by simp [hph]
  obtain ⟨-, e⟩ | ⟨hmore, e⟩ := discByte_cases s <;> rw [e]
  · exact inv_syncDone h.resultsOk (h.running hne)
  · refine inv_tick { h with idle_is_quiet := ?_, count_below_need := ?_, need_in_cap := ?_ } hne
    · exact fun hidle => absurd hidle hne
    · exact fun _ => (count_succ_lt_need (h.count_below_need hne) hmore)
    · exact fun hcap => by simp [hph] at hcap

/-- Storing a byte in a CAP phase moves the zero tail of FRAME by one (43_read.md R119, 10_state.md R27). -/
theorem resultsOk_storeByte {b : Byte} (h : Inv s) (hph : s.phase = .cap) : ResultsOk (storeByte b s) := by
  have hne : s.phase ≠ .idle := by simp [hph]
  obtain ⟨hneed, hctx, hrx⟩ := h.need_in_cap hph
  have hcnt : s.cnt < 14#4 := hneed ▸ h.count_below_need hne
  have hsucc : (s.cnt + 1#4).toNat = s.cnt.toNat + 1 := toNat_add_one_of_lt hcnt
  refine { h.resultsOk with valid_is_aligned := ?_, rxcnt_in_range := ?_, frame_tail_is_zero := ?_ }
  · exact fun hv => by simp [h.no_frame_while_reading hne hctx] at hv
  · rw [storeByte_rxcnt, hsucc]
    exact hcnt
  · intro i hi
    rw [storeByte_rxcnt, hsucc] at hi
    have hold : s.frame[i] = 0#8 := h.frame_tail_is_zero i (by rw [hrx]; omega)
    have hother : s.cnt.toNat ≠ i.val := by omega
    exact (Vector.getElem_setIfInBounds_ne i.isLt hother).trans hold

theorem inv_captureDone {b : Byte} (h : Inv s) (hph : s.phase = .cap) (hlast : s.cnt.toNat = 13) :
    Inv (captureDone (storeByte b s)) := by
  have hne : s.phase ≠ .idle := by simp [hph]
  have hres : ResultsOk (storeByte b s) := resultsOk_storeByte h hph
  obtain ⟨hal, e⟩ | ⟨-, e⟩ := captureDone_cases (storeByte b s) <;> rw [e]
  · have hcnt : s.cnt = 13#4 := BitVec.eq_of_toNat_eq hlast
    have hrx : s.cnt + 1#4 = 14#4 := by rw [hcnt]; rfl
    exact inv_complete { hres with valid_is_aligned := fun _ => ⟨hal, hrx⟩ } (fun _ => by simp) nofun
  · exact inv_beginPhase_mark hres { h.running hne with } (h.inBudget hne)

theorem inv_capByte {b : Byte} (h : Inv s) (hph : s.phase = .cap) : Inv (capByte b s) := by
  have hne : s.phase ≠ .idle := by simp [hph]
  obtain ⟨hneed, hctx, -⟩ := h.need_in_cap hph
  obtain ⟨hlast, e⟩ | ⟨hmore, e⟩ := capByte_cases b s <;> rw [e]
  · exact inv_captureDone h hph hlast
  · have hmore' : s.cnt.toNat + 1 ≠ s.need.toNat := by
      rw [hneed]
      exact fun heq => hmore (Nat.succ.inj heq)
    refine inv_tick { resultsOk_storeByte (b := b) h hph, h with
      idle_is_quiet := ?_, count_below_need := ?_, need_in_cap := ?_ } hne
    · exact fun hidle => absurd hidle hne
    · exact fun _ => (count_succ_lt_need (h.count_below_need hne) hmore')
    · exact fun _ => ⟨hneed, hctx, rfl⟩

/-! ## The sequencer's turn -/

theorem inv_emptyCycle (h : Inv s) (hne : s.phase ≠ .idle) : Inv (emptyCycle s) := by
  have hrun := h.running hne
  obtain ⟨-, e⟩ | ⟨-, ⟨-, e⟩ | ⟨-, e⟩ | ⟨-, e⟩ | ⟨-, e⟩⟩ := emptyCycle_cases s <;> rw [e]
  · exact inv_tick h hne
  · exact h
  · exact inv_complete h.resultsOk (hrun.valid_iff_none (by decide)) nofun
  · exact inv_syncDone h.resultsOk hrun
  · exact inv_beginPhase_mark h.resultsOk hrun (h.inBudget hne)

theorem inv_phaseByte {b : Byte} (h : Inv s) : Inv (phaseByte (markByte (pos b)) b s) := by
  obtain ⟨-, e⟩ | ⟨hph, e⟩ | ⟨hph, e⟩ | ⟨hph, e⟩ := phaseByte_cases (markByte (pos b)) b s <;> rw [e]
  · exact h
  · exact inv_markByte h hph
  · exact inv_discByte h hph
  · exact inv_capByte h hph

theorem inv_turn (h : Inv s) (hne : s.phase ≠ .idle) : Inv (turn s) := by
  unfold turn
  split
  · next b rest hfifo =>
    have hfits := h.fifo_fits
    rw [hfifo, List.length_cons] at hfits
    have hpopped : Inv { s with fifo := rest } := { h with fifo_fits := Nat.le_of_succ_le hfits }
    exact inv_phaseByte hpopped
  · exact inv_emptyCycle h hne

/-! ## The rest of the cycle -/

theorem inv_nextPins (h : Inv s) : Inv (nextPins s).2 := by
  unfold nextPins
  split <;> exact { h with }

theorem inv_settled (h : Inv s) : Inv (settled s) := { h with }

theorem inv_push {p : Pins} (h : Inv s) : Inv (push p s) := by
  obtain ⟨-, e⟩ | ⟨-, hroom, e⟩ | ⟨-, -, e⟩ := push_cases p s <;> rw [e]
  · exact h
  · exact { h with fifo_fits := by simpa using hroom }
  · exact { h with }

/-- A new command starts from a machine at rest (40_dispatch.md R77). -/
theorem HostChange.inv (hc : HostChange s t) (h : Inv s) : Inv t := by
  cases hc with
  | none => exact h
  | read w => exact { h with }
  | clear x y z =>
    have hsub : (clearSticky x y z s).done = true → s.done = true := by
      rw [clearSticky_done, Bool.and_eq_true]
      exact And.left
    exact { h with
      no_outcome_while_running := fun hne => by simp [h.no_outcome_while_running hne]
      read_outcome := fun hd => h.read_outcome (hsub hd)
      invalid_marker_outcome := fun hd => h.invalid_marker_outcome (hsub hd) }
  | enable v => exact { h with }
  | ignored => exact { h with }
  | retry v hb =>
    exact { h with attempt_in_budget := fun hne => absurd (h.idle_of_not_busy hb) hne }
  | timeout v _ => exact { h with }
  | sync _ =>
    exact inv_beginPhase_mark (s := { accept s with ctx := .sync }) { h with } ⟨rfl, ⟨rfl, rfl⟩, nofun⟩ nofun
  | startRead _ =>
    exact inv_nextAttempt { h with valid_is_aligned := nofun } ⟨rfl, ⟨rfl, rfl⟩, fun _ => rfl⟩ rfl

/-- While a command runs the host starts no other (40_dispatch.md R78). -/
theorem HostChange.phase_eq (hc : HostChange s t) (hb : s.busy = true) : t.phase = s.phase := by
  cases hc with
  | sync hidle => simp [hb] at hidle
  | startRead hidle => simp [hb] at hidle
  | _ => rfl

end

/-! ## The two obligations -/

/-- Settles O44: `Config.build` is a legal build. -/
theorem invariantAtReset : Obligations.InvariantAtReset :=
  inv_resetOf ⟨by decide, Nat.succ_pos _⟩

/-- Settles O45: a step is a reset, or a host change, the sequencer's turn and the push in turn, and each of them
keeps the invariant. -/
theorem invariantKeptByEveryStep : Obligations.InvariantKeptByEveryStep := by
  intro s t h hstep
  obtain ⟨-, rfl⟩ | ⟨-, u, hc, -, rfl⟩ := step_cases hstep
  · exact inv_resetCycle (inv_nextPins h)
  · have hs : Inv (settled (nextPins s).2) := inv_settled (inv_nextPins h)
    have hu : Inv u := hc.inv hs
    split
    · exact inv_push hu
    · next hne =>
      have hphase : u.phase = (nextPins s).2.phase := hc.phase_eq (hs.busy_iff_running.mpr hne)
      exact inv_push (inv_turn hu (by rwa [hphase]))

end Sys2Proof.Machine
end

section
/-! PROOFS. The host registers of 10_state.md R31 to R42: where they stand, the fields of the word a read returns, what
a write does. -/

namespace Sys2Proof.Machine

/-! ## Where a register stands -/

/-- The byte offset of a slot takes the ignored address bits as they are (20_memory.md R46). -/
theorem addrOf_or_lane (slot : BitVec 4) (lane : BitVec 2) :
    addrOf slot 0#2 ||| lane.setWidth 6 = addrOf slot lane := by
  revert slot lane; decide

/-- A register stands at a slot if both decoders give it there (30_encoding.md R58). For one slot and its two
instructions the hypotheses are the decoders' own rows, so they are found without being written. -/
theorem isAt_addrOf (slot : BitVec 4) {rd : BitVec 2 → Instr} {wr : BitVec 2 → Word32 → Instr}
    (hrd : ∀ a, slotOf a = slot → decodeRead a = rd (laneOf a) := by intro a h; simp [decodeRead, h])
    (hwr : ∀ a v, slotOf a = slot → decodeWrite a v = wr (laneOf a) v := by intro a v h; simp [decodeWrite, h]) :
    IsAt (addrOf slot 0#2) rd wr := by
  intro lane v
  have hslot : slotOf (addrOf slot lane) = slot := slotOf_addrOf slot lane
  rw [addrOf_or_lane, decode, decode, hrd _ hslot, hwr _ v hslot, laneOf_addrOf]
  exact ⟨rfl, rfl⟩

/-! ## The words that a read returns

A word is a concatenation of fields, so a field is reached by passing the ones below it. -/

section
variable (s : State) (f : Frame)

theorem getLsbD_ofBool_zero (b : Bool) : (BitVec.ofBool b).getLsbD 0 = b := by
  cases b <;> rfl

/-- STATUS (10_state.md R33). -/
theorem statusWord_fields :
    (statusWord s).getLsbD 0 = s.busy ∧ (statusWord s).getLsbD 1 = s.done ∧
    (statusWord s).extractLsb' 2 2 = s.err.code ∧ (statusWord s).getLsbD 4 = s.valid ∧
    (statusWord s).getLsbD 5 = s.ign ∧ (statusWord s).getLsbD 6 = s.ovr ∧ (statusWord s).getLsbD 7 = false ∧
    (statusWord s).extractLsb' 8 8 = levelOf s ∧ (statusWord s).extractLsb' 16 2 = s.phase.code ∧
    (statusWord s).getLsbD 18 = s.ctx.bit.getLsbD 0 ∧ (statusWord s).extractLsb' 19 13 = 0#13 := by
  simp (disch := decide) only [statusWord, BitVec.getLsbD_cast, BitVec.getLsbD_append, Nat.reduceLT, Nat.reduceSub,
    reduceIte, getLsbD_ofBool_zero, BitVec.getLsbD_zero, BitVec.extractLsb'_cast, BitVec.extractLsb'_append_eq_of_le,
    BitVec.extractLsb'_append_eq_of_add_le, BitVec.extractLsb'_eq_self, and_self]

/-- IRQ_EN (10_state.md R34). -/
theorem irqEnWord_fields :
    (irqEnWord s).getLsbD 0 = s.doneIe ∧ (irqEnWord s).extractLsb' 1 31 = 0#31 := by
  simp (disch := decide) only [irqEnWord, BitVec.getLsbD_cast, BitVec.getLsbD_append, Nat.reduceLT, Nat.reduceSub,
    reduceIte, getLsbD_ofBool_zero, BitVec.extractLsb'_cast, BitVec.extractLsb'_append_eq_of_le,
    BitVec.extractLsb'_eq_self, and_self]

/-- RETRY (10_state.md R35). -/
theorem retryWord_fields :
    (retryWord s).extractLsb' 0 4 = s.retryLimit ∧ (retryWord s).extractLsb' 4 28 = 0#28 :=
  ⟨BitVec.extractLsb'_append_eq_right, BitVec.extractLsb'_append_eq_left⟩

/-- RESULT (10_state.md R37). -/
theorem resultWord_fields :
    (resultWord s).extractLsb' 0 4 = s.attempt ∧ (resultWord s).extractLsb' 4 4 = 0#4 ∧
    (resultWord s).extractLsb' 8 4 = s.rxcnt ∧ (resultWord s).extractLsb' 12 4 = 0#4 ∧
    (resultWord s).extractLsb' 16 4 = s.marker ∧ (resultWord s).extractLsb' 20 12 = 0#12 := by
  simp (disch := decide) only [resultWord, BitVec.extractLsb'_cast, BitVec.extractLsb'_append_eq_of_le,
    BitVec.extractLsb'_append_eq_of_add_le, Nat.reduceSub, BitVec.extractLsb'_eq_self, and_self]

/-- FRAME0 to FRAME2, four bytes each (10_state.md R41). -/
theorem frameWords_fields (j : Fin 4) :
    (frame0Word f).extractLsb' (8 * j.val) 8 = f[j.val] ∧ (frame1Word f).extractLsb' (8 * j.val) 8 = f[4 + j.val] ∧
    (frame2Word f).extractLsb' (8 * j.val) 8 = f[8 + j.val] := by
  fin_cases j <;>
    simp (disch := decide) only [frame0Word, frame1Word, frame2Word, BitVec.extractLsb'_cast,
      BitVec.extractLsb'_append_eq_of_le, BitVec.extractLsb'_append_eq_of_add_le, Nat.reduceSub, Nat.reduceMul,
      BitVec.extractLsb'_eq_self, and_self]

/-- FRAME3, whose upper half is 0 (10_state.md R41). -/
theorem frame3Word_fields :
    (frame3Word f).extractLsb' 0 8 = f[12] ∧ (frame3Word f).extractLsb' 8 8 = f[13] ∧
    (frame3Word f).extractLsb' 16 16 = 0#16 := by
  simp (disch := decide) only [frame3Word, BitVec.extractLsb'_cast, BitVec.extractLsb'_append_eq_of_le,
    BitVec.extractLsb'_append_eq_of_add_le, Nat.reduceSub, BitVec.extractLsb'_eq_self, and_self]

/-! ## The alignment view -/

theorem getLsbD_matchBits (i : Fin 14) : (matchBits f).getLsbD i.val = matchBit f i := by
  simp only [matchBits, BitVec.getLsbD_cast, BitVec.getLsbD_append]
  fin_cases i <;> exact getLsbD_ofBool_zero _

/-- ALIGNED says that every byte of FRAME carries its own marker (42_frame_decode.md R103). -/
theorem aligned_iff : aligned f = true ↔ ∀ i, matchBit f i = true := by
  simp [aligned, Fin.forall_fin_succ, and_assoc]

/-- ALIGN (10_state.md R40). -/
theorem alignWord_fields :
    (∀ i : Fin 14, (alignWord f).getLsbD i.val = matchBit f i) ∧ (alignWord f).extractLsb' 14 2 = 0#2 ∧
    (alignWord f).getLsbD 16 = aligned f ∧ (alignWord f).extractLsb' 17 15 = 0#15 := by
  refine ⟨fun i => ?_, ?_⟩
  · rw [alignWord, BitVec.getLsbD_cast, BitVec.getLsbD_append, if_pos i.isLt, getLsbD_matchBits]
  · simp (disch := decide) only [alignWord, BitVec.getLsbD_cast, BitVec.getLsbD_append, Nat.reduceLT, Nat.reduceSub,
      reduceIte, getLsbD_ofBool_zero, BitVec.extractLsb'_cast, BitVec.extractLsb'_append_eq_of_le,
      BitVec.extractLsb'_append_eq_of_add_le, BitVec.extractLsb'_eq_self, and_self]

end

/-! ## The views at reset -/

theorem statusWord_resetOf (b : Build) : statusWord (State.resetOf b) = 0#32 := by
  simp only [statusWord, levelOf, resetOf_ctx, resetOf_phase, resetOf_fifo, resetOf_ovr, resetOf_ign, resetOf_valid,
    resetOf_err, resetOf_done, resetOf_busy]
  rfl

/-- No byte of the all-zero FRAME carries a marker (10_state.md R40). -/
theorem alignWord_resetOf (b : Build) : alignWord (State.resetOf b).frame = 0#32 := by
  rw [resetOf_frame]
  decide

/-! ## What a write does -/

/-- Clearing a bit where one is written leaves it where zero is (10_state.md R33). -/
theorem clearSticky_eq (x y z : Bool) (s : State) : clearSticky x y z s = { s with
    done := if x then false else s.done
    ign := if y then false else s.ign
    ovr := if z then false else s.ovr } := by
  have hbit : ∀ b c : Bool, (b && !c) = if c then false else b := by decide
  simp only [clearSticky, hbit]

theorem next_busyGuarded (f : State → State) (s : State) :
    (.next (busyGuarded f s) : Result) = if s.busy then .next (setIgn s) else .next (f s) :=
  apply_ite Host.Outcome.next _ _ _

/-- TIMEOUT_RESET fits its register (70_reset_and_hazards.md R154). -/
theorem timeoutReset_toNat (fClkHz : Nat) : (timeoutReset fClkHz).toNat = min (3 * fClkHz) (2 ^ 32 - 1) := by
  rw [timeoutReset, BitVec.toNat_ofNat]
  exact Nat.mod_eq_of_lt (by omega)

/-! ## The registers -/

/-- Settles O14: the read drives the constant 0. -/
theorem cmdReadsZero : Obligations.CmdReadsZero := fun _ _ => rfl

/-- Settles O5: the bits of `statusWord`, and the sticky bits of a write. -/
theorem statusRegister : Obligations.StatusRegister := by
  refine ⟨isAt_addrOf 1#4, fun lane s => ⟨statusWord s, rfl, ?_⟩, fun lane b => ⟨_, rfl, statusWord_resetOf b⟩, ?_⟩
  · obtain ⟨hbusy, hdone, herr, hvalid, hign, hovr, hzero, hlevel, hphase, hctx, hhigh⟩ := statusWord_fields s
    exact ⟨hbusy, hdone, herr, hvalid, hign, hovr, hzero, hlevel, hphase, hctx.trans (by cases s.ctx <;> rfl), hhigh⟩
  · exact fun lane v s => congrArg Host.Outcome.next (clearSticky_eq _ _ _ s)

/-- Settles O6: bit 0 of `irqEnWord` and of the data is DONE_IE. -/
theorem irqEnRegister : Obligations.IrqEnRegister :=
  ⟨isAt_addrOf 2#4, fun _ s => ⟨irqEnWord s, rfl, irqEnWord_fields s⟩, fun _ _ _ => rfl, resetOf_doneIe⟩

/-- Settles O7: the fields of `retryWord`, and a busy-guarded write. -/
theorem retryRegister : Obligations.RetryRegister :=
  ⟨isAt_addrOf 3#4, fun _ s => ⟨retryWord s, rfl, retryWord_fields s⟩, fun _ _ s => next_busyGuarded _ s,
    resetOf_retryLimit⟩

/-- Settles O8: the word is TIMEOUT itself, and the write is busy-guarded. -/
theorem timeoutRegister : Obligations.TimeoutRegister :=
  ⟨isAt_addrOf 4#4, fun _ _ => rfl, fun _ _ s => next_busyGuarded _ s, fun b => timeoutReset_toNat b.fClkHz⟩

/-- Settles O9: the fields of `resultWord`; the write is the identity. -/
theorem resultRegister : Obligations.ResultRegister :=
  ⟨isAt_addrOf 5#4, fun _ _ _ => rfl, fun _ s => ⟨resultWord s, rfl, resultWord_fields s⟩,
    fun b => ⟨resetOf_attempt b, resetOf_rxcnt b, resetOf_marker b⟩⟩

/-- Settles O12: MATCH[i] compares the marker of FRAME[i] with i + 1, and ALIGNED is their conjunction. -/
theorem alignRegister : Obligations.AlignRegister := by
  refine ⟨isAt_addrOf 8#4, fun _ _ _ => rfl, fun lane s => ?_, fun lane b => ⟨_, rfl, alignWord_resetOf b⟩⟩
  obtain ⟨hmatch, hlow, haligned, hhigh⟩ := alignWord_fields s.frame
  have hbit : ∀ i : Fin 14, matchBit s.frame i =
      decide ((s.frame[i]).extractLsb' 4 4 = BitVec.ofNat 4 (i.val + 1)) := fun i => rfl
  refine ⟨alignWord s.frame, rfl, fun i => (hmatch i).trans (hbit i), hlow, ?_, hhigh⟩
  simp only [haligned, aligned_iff, hbit, decide_eq_true_eq]

/-- Settles O13: each word packs four bytes of FRAME, the last one two. -/
theorem frameRegisters : Obligations.FrameRegisters := by
  refine ⟨isAt_addrOf 9#4, isAt_addrOf 10#4, isAt_addrOf 11#4, isAt_addrOf 12#4, fun _ _ _ => rfl, fun _ _ _ => rfl,
    fun _ _ _ => rfl, fun _ _ _ => rfl, fun lane s => ?_, fun b i => Vector.getElem_replicate i.isLt⟩
  exact ⟨frame0Word s.frame, frame1Word s.frame, frame2Word s.frame, frame3Word s.frame, rfl, rfl, rfl, rfl,
    frameWords_fields s.frame, frame3Word_fields s.frame⟩

/-- Settles O15: the reads drive the constant 0 and the writes are the identity. -/
theorem unmappedOffsets : Obligations.UnmappedOffsets :=
  ⟨isAt_addrOf 13#4, isAt_addrOf 14#4, isAt_addrOf 15#4, fun _ _ _ => ⟨rfl, rfl, rfl, rfl, rfl, rfl⟩⟩

end Sys2Proof.Machine
end

section
/-! PROOFS. The interrupt output (10_state.md R14, 60_exceptions.md R136, R137): what each part of a cycle does to DONE
and DONE_IE. -/

namespace Sys2Proof.Machine

section
variable {s t : State}

/-! ## The host's access -/

/-- What the host's access does to DONE and DONE_IE, by the access (40_dispatch.md R75, R77). -/
inductive IrqChange (p : Pins) (s t : State) : Prop
  /-- Every access but the ones below. -/
  | none (hdone : t.done = s.done) (hie : t.doneIe = s.doneIe)
  /-- A STATUS write that clears DONE (10_state.md R33). -/
  | clear (hwr : p.busWr = true) (hslot : slotOf p.busAddr = 1#4) (hbit : p.busWdata.getLsbD 1 = true)
      (hdone : t.done = false)
  /-- An IRQ_EN write (10_state.md R34). -/
  | enable (hwr : p.busWr = true) (hslot : slotOf p.busAddr = 2#4) (hdone : t.done = s.done)
      (hie : t.doneIe = p.busWdata.getLsbD 0)
  /-- An accepted SYNC, which leaves DONE 0 (41_sync.md R88). -/
  | sync (hwr : p.busWr = true) (hslot : slotOf p.busAddr = 0#4) (hop : opOf p.busWdata = 1#2)
      (hdone : t.done = false)
  /-- An accepted READ, which leaves DONE 0 unless it has no attempt (43_read.md R116, R118). -/
  | read (hwr : p.busWr = true) (hslot : slotOf p.busAddr = 0#4) (hop : opOf p.busWdata = 2#2)
      (hidle : s.busy = false) (hdone : t.done = true → s.retryLimit = 0#4)

/-- Only a READ without an attempt is DONE at once (43_read.md R118). -/
theorem retryLimit_of_startRead_done (h : (startRead (accept s)).done = true) : s.retryLimit = 0#4 := by
  obtain ⟨-, e⟩ | ⟨hle, -⟩ := nextAttempt_cases { accept s with ctx := .read, valid := false, attempt := 0#4 }
  · rw [startRead, e] at h
    cases h
  · exact BitVec.le_zero_iff.mp hle

/-- A write that is ignored leaves DONE and DONE_IE (40_dispatch.md R78). -/
theorem irqChange_busyGuarded {p : Pins} {f : State → State} (h : s.busy = false → IrqChange p s (f s)) :
    IrqChange p s (busyGuarded f s) := by
  obtain ⟨-, e⟩ | ⟨hb, e⟩ := busyGuarded_cases f s <;> rw [e]
  · exact .none rfl rfl
  · exact h hb

theorem irqChange_decodeCommand {p : Pins} (hwr : p.busWr = true) (hslot : slotOf p.busAddr = 0#4) :
    ∃ u, exec (decodeCommand (laneOf p.busAddr) p.busWdata) s = .next u ∧ IrqChange p s u := by
  unfold decodeCommand
  split
  case h_2 hop =>
    have hop' : opOf p.busWdata = 1#2 := BitVec.eq_of_toNat_eq hop
    exact ⟨_, rfl, irqChange_busyGuarded fun _ => .sync hwr hslot hop' rfl⟩
  case h_3 hop =>
    have hop' : opOf p.busWdata = 2#2 := BitVec.eq_of_toNat_eq hop
    exact ⟨_, rfl, irqChange_busyGuarded fun hb => .read hwr hslot hop' hb retryLimit_of_startRead_done⟩
  all_goals exact ⟨_, rfl, .none rfl rfl⟩

theorem irqChange_clearSticky {p : Pins} (hwr : p.busWr = true) (hslot : slotOf p.busAddr = 1#4) (y z : Bool) :
    IrqChange p s (clearSticky (clrDoneOf p.busWdata) y z s) := by
  cases hbit : clrDoneOf p.busWdata with
  | false => exact .none (by simp) rfl
  | true => exact .clear hwr hslot hbit (by simp)

theorem irqChange_decodeWrite {p : Pins} (hwr : p.busWr = true) :
    ∃ u, exec (decodeWrite p.busAddr p.busWdata) s = .next u ∧ IrqChange p s u := by
  unfold decodeWrite
  split
  case h_1 hslot => exact irqChange_decodeCommand hwr (BitVec.eq_of_toNat_eq hslot)
  case h_2 hslot => exact ⟨_, rfl, irqChange_clearSticky hwr (BitVec.eq_of_toNat_eq hslot) _ _⟩
  case h_3 hslot => exact ⟨_, rfl, .enable hwr (BitVec.eq_of_toNat_eq hslot) rfl rfl⟩
  case h_4 => exact ⟨_, rfl, irqChange_busyGuarded fun _ => .none rfl rfl⟩
  case h_5 => exact ⟨_, rfl, irqChange_busyGuarded fun _ => .none rfl rfl⟩
  all_goals exact ⟨_, rfl, .none rfl rfl⟩

theorem irqChange_hostAccess {p : Pins} (h : hostAccess p s = .next t) : IrqChange p s t := by
  unfold hostAccess busCode at h
  by_cases hwr : p.busWr = true
  · obtain ⟨u, e, hu⟩ := irqChange_decodeWrite (s := s) hwr
    rw [if_pos hwr] at h
    cases h.symm.trans e
    exact hu
  · rw [if_neg hwr] at h
    by_cases hrd : p.busRd = true
    · obtain ⟨w, e⟩ := exec_decodeRead p.busAddr s
      rw [if_pos hrd] at h
      cases h.symm.trans e
      exact .none rfl rfl
    · rw [if_neg hrd] at h
      cases h
      exact .none rfl rfl

/-! ## The sequencer's turn and the push -/

/-- The sequencer leaves DONE unless it completes the command, which clears BUSY (40_dispatch.md R80). -/
def CompletesOrKeeps (s t : State) : Prop :=
  t.done = s.done ∨ (t.done = true ∧ t.busy = false)

theorem nextAttempt_completesOrKeeps : CompletesOrKeeps s (nextAttempt s) := by
  obtain ⟨-, e⟩ | ⟨-, e⟩ := nextAttempt_cases s <;> rw [e]
  · exact .inl rfl
  · exact .inr ⟨rfl, rfl⟩

theorem syncDone_completesOrKeeps : CompletesOrKeeps s (syncDone s) := by
  obtain ⟨-, e⟩ | ⟨-, e⟩ := syncDone_cases s <;> rw [e]
  · exact .inr ⟨rfl, rfl⟩
  · exact nextAttempt_completesOrKeeps

theorem markByte_completesOrKeeps (p : Nibble) : CompletesOrKeeps s (markByte p s) := by
  unfold markByte
  split
  · exact .inr ⟨rfl, rfl⟩
  · split
    · exact syncDone_completesOrKeeps (s := { s with marker := 14#4 })
    · exact .inl rfl

theorem discByte_completesOrKeeps : CompletesOrKeeps s (discByte s) := by
  obtain ⟨-, e⟩ | ⟨-, e⟩ := discByte_cases s <;> rw [e]
  · exact syncDone_completesOrKeeps
  · exact .inl rfl

theorem captureDone_completesOrKeeps : CompletesOrKeeps s (captureDone s) := by
  obtain ⟨-, e⟩ | ⟨-, e⟩ := captureDone_cases s <;> rw [e]
  · exact .inr ⟨rfl, rfl⟩
  · exact .inl rfl

theorem capByte_completesOrKeeps (b : Byte) : CompletesOrKeeps s (capByte b s) := by
  obtain ⟨-, e⟩ | ⟨-, e⟩ := capByte_cases b s <;> rw [e]
  · exact captureDone_completesOrKeeps (s := storeByte b s)
  · exact .inl rfl

theorem phaseByte_completesOrKeeps (p : Nibble) (b : Byte) : CompletesOrKeeps s (phaseByte (markByte p) b s) := by
  obtain ⟨-, e⟩ | ⟨-, e⟩ | ⟨-, e⟩ | ⟨-, e⟩ := phaseByte_cases (markByte p) b s <;> rw [e]
  · exact .inl rfl
  · exact markByte_completesOrKeeps p
  · exact discByte_completesOrKeeps
  · exact capByte_completesOrKeeps b

theorem emptyCycle_completesOrKeeps : CompletesOrKeeps s (emptyCycle s) := by
  obtain ⟨-, e⟩ | ⟨-, ⟨-, e⟩ | ⟨-, e⟩ | ⟨-, e⟩ | ⟨-, e⟩⟩ := emptyCycle_cases s <;> rw [e]
  · exact .inl rfl
  · exact .inl rfl
  · exact .inr ⟨rfl, rfl⟩
  · exact syncDone_completesOrKeeps
  · exact .inl rfl

theorem turn_completesOrKeeps : CompletesOrKeeps s (turn s) := by
  unfold turn
  split
  · next b rest _ => exact phaseByte_completesOrKeeps (s := { s with fifo := rest }) (pos b) b
  · exact emptyCycle_completesOrKeeps

@[simp] theorem push_irq (p : Pins) : (push p s).irq = s.irq := by
  obtain ⟨-, e⟩ | ⟨-, -, e⟩ | ⟨-, -, e⟩ := push_cases p s <;> rw [e] <;> rfl

@[simp] theorem push_busy (p : Pins) : (push p s).busy = s.busy := by
  obtain ⟨-, e⟩ | ⟨-, -, e⟩ | ⟨-, -, e⟩ := push_cases p s <;> rw [e]
  rfl

/-! ## irq along a cycle -/

theorem irq_eq_true_iff : s.irq = true ↔ s.doneIe = true ∧ s.done = true := by
  rw [State.irq, Bool.and_eq_true]

/-- The host accesses that can make irq fall (60_exceptions.md R137). -/
theorem IrqChange.fall {p : Pins} (h : IrqChange p s t) (hs : s.irq = true) (ht : t.irq = false) :
    p.busWr = true ∧
      ((slotOf p.busAddr = 1#4 ∧ p.busWdata.getLsbD 1 = true) ∨
       (slotOf p.busAddr = 2#4 ∧ p.busWdata.getLsbD 0 = false) ∨
       (slotOf p.busAddr = 0#4 ∧ (opOf p.busWdata = 1#2 ∨ opOf p.busWdata = 2#2))) := by
  cases h with
  | none hdone hie =>
    rw [State.irq, hdone, hie, ← State.irq, hs] at ht
    cases ht
  | clear hwr hslot hbit _ => exact ⟨hwr, .inl ⟨hslot, hbit⟩⟩
  | enable hwr hslot hdone hie =>
    rw [State.irq, hdone, (irq_eq_true_iff.mp hs).2, hie, Bool.and_true] at ht
    exact ⟨hwr, .inr (.inl ⟨hslot, ht⟩)⟩
  | sync hwr hslot hop _ => exact ⟨hwr, .inr (.inr ⟨hslot, .inl hop⟩)⟩
  | read hwr hslot hop _ _ => exact ⟨hwr, .inr (.inr ⟨hslot, .inr hop⟩)⟩

/-- The host accesses that can make irq rise: DONE_IE set, or a READ that completes at once (43_read.md R118). -/
theorem IrqChange.rise {p : Pins} (h : IrqChange p s t) (hs : s.irq = false) (ht : t.irq = true) :
    (p.busWr = true ∧ slotOf p.busAddr = 2#4 ∧ p.busWdata.getLsbD 0 = true) ∨
    (p.busWr = true ∧ slotOf p.busAddr = 0#4 ∧ opOf p.busWdata = 2#2 ∧ s.retryLimit = 0#4) := by
  obtain ⟨htie, htdone⟩ := irq_eq_true_iff.mp ht
  cases h with
  | none hdone hie =>
    rw [State.irq, ← hdone, ← hie, ← State.irq, ht] at hs
    cases hs
  | clear _ _ _ hdone => simp [hdone] at htdone
  | enable hwr hslot _ hie => exact .inl ⟨hwr, hslot, hie.symm.trans htie⟩
  | sync _ _ _ hdone => simp [hdone] at htdone
  | read hwr hslot hop _ hdone => exact .inr ⟨hwr, hslot, hop, hdone htdone⟩

/-- While a command runs no host access sets DONE. -/
theorem IrqChange.done_eq_false {p : Pins} (h : IrqChange p s t) (hb : s.busy = true) (hd : s.done = false) :
    t.done = false := by
  cases h with
  | none hdone _ => rw [hdone, hd]
  | clear _ _ _ hdone => exact hdone
  | enable _ _ hdone _ => rw [hdone, hd]
  | sync _ _ _ hdone => exact hdone
  | read _ _ _ hidle _ => simp [hb] at hidle

/-- Taking the pins changes the model's own fields alone (logs 2, 3). -/
theorem nextPins_eq (s : State) : ∃ ps n, (nextPins s).2 = { s with inputs := ps, draws := n } := by
  unfold nextPins
  split <;> exact ⟨_, _, rfl⟩

/-- In a running phase irq is 0 and rises only with the completion (60_exceptions.md R136). -/
theorem turn_irq_of_rise (hd : s.done = false) (ht : (turn s).irq = true) : (turn s).busy = false := by
  obtain hkeeps | ⟨-, hbusy⟩ := turn_completesOrKeeps (s := s)
  · have htdone := (irq_eq_true_iff.mp ht).2
    rw [hkeeps, hd] at htdone
    cases htdone
  · exact hbusy

end

/-- Settles O53: at rest only the host's access moves irq, and while a command runs irq is 0 until it completes. -/
theorem interruptFollowsDone : Obligations.InterruptFollowsDone := by
  intro s t hinv hrst hstep p
  obtain ⟨hreset, -⟩ | ⟨-, u, -, haccess, rfl⟩ := step_cases hstep
  · simp [hrst] at hreset
  obtain ⟨ps, n, hpins⟩ := nextPins_eq s
  rw [hpins] at haccess
  have hchange := irqChange_hostAccess haccess
  rw [hpins, push_irq, push_busy]
  split
  · exact ⟨hchange.fall, fun hs ht => .inr (hchange.rise hs ht)⟩
  · next hne =>
    have hbusy : s.busy = true := hinv.busy_iff_running.mpr hne
    have hdone : s.done = false := (hinv.no_outcome_while_running hne).1
    refine ⟨fun hs => ?_, fun _ ht => .inl ⟨hbusy, turn_irq_of_rise (hchange.done_eq_false hbusy hdone) ht⟩⟩
    simp [State.irq, hdone] at hs

end Sys2Proof.Machine
end

section
/-! PROOFS. The host's accesses and the byte source (20_memory.md R44 to R53): the address bits an access ignores, what a
phase neither reads nor writes, the push after the pop. -/

namespace Sys2Proof.Machine

/-! ## The ignored address bits -/

theorem exec_decodeRead_congr {a b : Addr} (h : slotOf a = slotOf b) (s : State) :
    exec (decodeRead a) s = exec (decodeRead b) s := by
  unfold decodeRead
  rw [h]
  split <;> rfl

/-- No command looks at the ignored bits of the address (20_memory.md R46). -/
theorem exec_decodeCommand_congr (l m : BitVec 2) (v : Word32) (s : State) :
    exec (decodeCommand l v) s = exec (decodeCommand m v) s := by
  unfold decodeCommand
  split <;> rfl

theorem exec_decodeWrite_congr {a b : Addr} (h : slotOf a = slotOf b) (v : Word32) (s : State) :
    exec (decodeWrite a v) s = exec (decodeWrite b v) s := by
  unfold decodeWrite
  rw [h]
  split
  case h_1 => exact exec_decodeCommand_congr (laneOf a) (laneOf b) v s
  all_goals rfl

/-- Settles O4: both decoders go by the slot, and no meaning reads the lane. -/
theorem offsetLowBitsIgnored : Obligations.OffsetLowBitsIgnored :=
  fun _ _ s h => ⟨exec_decodeRead_congr h s, fun v => exec_decodeWrite_congr h v s⟩

/-! ## What a phase neither reads nor writes -/

/-- The fields that no rule of a phase looks at: they are the host's, the byte source's and the output nets. -/
structure Bystanders where
  /-- DONE_IE (10_state.md R18). -/
  doneIe : Bool
  /-- IGN (R23). -/
  ign : Bool
  /-- OVR (R24). -/
  ovr : Bool
  /-- The RX FIFO (R26). -/
  fifo : List Byte
  /-- The output nets (log 6). -/
  out : Outputs

/-- The bystanders of a state. -/
def State.bystanders (s : State) : Bystanders :=
  { doneIe := s.doneIe, ign := s.ign, ovr := s.ovr, fifo := s.fifo, out := s.out }

/-- `s` with other bystanders. -/
def State.setBystanders (x : Bystanders) (s : State) : State :=
  { s with doneIe := x.doneIe, ign := x.ign, ovr := x.ovr, fifo := x.fifo, out := x.out }

/-- `f` neither reads nor writes the bystanders. -/
def PhaseLocal (f : State → State) : Prop :=
  ∀ (x : Bystanders) (s : State), f (s.setBystanders x) = (f s).setBystanders x

theorem PhaseLocal.bystanders_eq {f : State → State} (hf : PhaseLocal f) (s : State) :
    (f s).bystanders = s.bystanders := by
  have hown : f s = (f s).setBystanders s.bystanders := hf s.bystanders s
  rw [hown]
  rfl

theorem PhaseLocal.fifo_eq {f : State → State} (hf : PhaseLocal f) (s : State) : (f s).fifo = s.fifo :=
  congrArg Bystanders.fifo (hf.bystanders_eq s)

theorem PhaseLocal.out_eq {f : State → State} (hf : PhaseLocal f) (s : State) : (f s).out = s.out :=
  congrArg Bystanders.out (hf.bystanders_eq s)

theorem nextAttempt_phaseLocal : PhaseLocal nextAttempt := by
  intro x s
  rw [nextAttempt, nextAttempt, apply_ite (State.setBystanders x)]
  rfl

theorem syncDone_phaseLocal : PhaseLocal syncDone := by
  intro x s
  have hctx : (s.setBystanders x).ctx = s.ctx := rfl
  unfold syncDone
  rw [hctx]
  cases s.ctx with
  | sync => rfl
  | read => exact nextAttempt_phaseLocal x s

theorem captureDone_phaseLocal : PhaseLocal captureDone := by
  intro x s
  rw [captureDone, captureDone, apply_ite (State.setBystanders x)]
  rfl

theorem markByte_phaseLocal (p : Nibble) : PhaseLocal (markByte p) := by
  intro x s
  unfold markByte
  split
  · rfl
  · split
    · exact syncDone_phaseLocal x { s with marker := 14#4 }
    · rfl

theorem discByte_phaseLocal : PhaseLocal discByte := by
  intro x s
  have hcnt : (s.setBystanders x).cnt = s.cnt := rfl
  have hneed : (s.setBystanders x).need = s.need := rfl
  unfold discByte
  rw [hcnt, hneed]
  split
  · exact syncDone_phaseLocal x s
  · rfl

theorem capByte_phaseLocal (b : Byte) : PhaseLocal (capByte b) := by
  intro x s
  have hcnt : (s.setBystanders x).cnt = s.cnt := rfl
  unfold capByte
  rw [hcnt]
  split
  · exact captureDone_phaseLocal x (storeByte b s)
  · rfl

theorem phaseByte_phaseLocal {onMark : State → State} (hmark : PhaseLocal onMark) (b : Byte) :
    PhaseLocal (phaseByte onMark b) := by
  intro x s
  have hphase : (s.setBystanders x).phase = s.phase := rfl
  unfold phaseByte
  rw [hphase]
  cases s.phase with
  | idle => rfl
  | mark => exact hmark x s
  | disc => exact discByte_phaseLocal x s
  | cap => exact capByte_phaseLocal b x s

theorem phaseTimeout_phaseLocal : PhaseLocal phaseTimeout := by
  intro x s
  have hphase : (s.setBystanders x).phase = s.phase := rfl
  unfold phaseTimeout
  rw [hphase]
  cases s.phase with
  | disc => exact syncDone_phaseLocal x s
  | _ => rfl

theorem emptyCycle_phaseLocal : PhaseLocal emptyCycle := by
  intro x s
  have htimeout : (s.setBystanders x).timeout = s.timeout := rfl
  have htmr : (s.setBystanders x).tmr = s.tmr := rfl
  unfold emptyCycle
  rw [htimeout, htmr]
  split
  · exact phaseTimeout_phaseLocal x s
  · rfl

/-- What the sequencer's turn does once it has popped is local to the phase (40_dispatch.md R81): a byte's effect, or
a cycle with the FIFO empty. -/
theorem turn_phaseLocal (fs : List Byte) :
    ∃ f, PhaseLocal f ∧ ∀ s : State, s.fifo = fs → turn s = f { s with fifo := fs.drop 1 } := by
  cases fs with
  | nil =>
    refine ⟨emptyCycle, emptyCycle_phaseLocal, fun s h => ?_⟩
    have hs : ({ s with fifo := [] } : State) = s := by rw [← h]
    rw [turn, h, List.drop_nil, hs]
  | cons b rest =>
    refine ⟨phaseByte (markByte (pos b)) b, phaseByte_phaseLocal (markByte_phaseLocal (pos b)) b, fun s h => ?_⟩
    rw [turn, h]
    rfl

/-- The sequencer takes one byte if one waits, and puts none back (10_state.md R26, 40_dispatch.md R81). -/
theorem turn_fifo (s : State) : (turn s).fifo = s.fifo.drop 1 := by
  obtain ⟨f, hf, hturn⟩ := turn_phaseLocal s.fifo
  rw [hturn s rfl, hf.fifo_eq]

/-! ## A read changes bus_rdata alone -/

theorem driveRead_eq_setBystanders (w : Word32) (s : State) :
    driveRead w s = s.setBystanders { s.bystanders with out := { s.out with rdata := w } } := rfl

theorem PhaseLocal.comm_driveRead {f : State → State} (hf : PhaseLocal f) (w : Word32) (s : State) :
    f (driveRead w s) = driveRead w (f s) := by
  rw [driveRead_eq_setBystanders, driveRead_eq_setBystanders, hf, hf.bystanders_eq, hf.out_eq]

theorem turn_driveRead (w : Word32) (s : State) : turn (driveRead w s) = driveRead w (turn s) := by
  obtain ⟨f, hf, hturn⟩ := turn_phaseLocal s.fifo
  rw [hturn s rfl, hturn (driveRead w s) rfl]
  exact hf.comm_driveRead w { s with fifo := s.fifo.drop 1 }

theorem push_driveRead (p : Pins) (w : Word32) (s : State) : push p (driveRead w s) = driveRead w (push p s) := by
  rw [push, push, apply_ite (driveRead w), apply_ite (driveRead w)]
  rfl

/-- What the host's access answers settles the cycle: the sequencer and the push follow (40_dispatch.md R74). -/
theorem runCycle_eq {p : Pins} {s u : State} (h : hostAccess p (settled s) = .next u) :
    runCycle p s = .next (push p (if s.phase = .idle then u else turn u)) := by
  obtain ⟨u', -, h', hrun⟩ := runCycle_cases p s
  cases h.symm.trans h'
  exact hrun

/-- The cycle with a read and the same cycle without it (20_memory.md R44, R48). -/
theorem runCycle_read (p : Pins) (a : Addr) (s : State) : ∃ t w,
    runCycle { p with busWr := false, busRd := false } s = .next t ∧
    runCycle { p with busWr := false, busRd := true, busAddr := a } s = .next (driveRead w t) := by
  obtain ⟨w, hread⟩ := exec_decodeRead a (settled s)
  have haccess : hostAccess { p with busWr := false, busRd := true, busAddr := a } (settled s) =
      .next (driveRead w (settled s)) := hread
  refine ⟨_, w, runCycle_eq (u := settled s) rfl, ?_⟩
  rw [runCycle_eq haccess, turn_driveRead, ← apply_ite (driveRead w), push_driveRead]
  rfl

section
variable {p : Pins} {rest : List Pins} {s t : State}

theorem step_eq_resetCycle (hrst : p.rst = true) :
    step { s with inputs := p :: rest } = .next (resetCycle { s with inputs := rest }) :=
  if_pos hrst

theorem step_eq_of_runCycle (hrst : p.rst = false) (hrun : runCycle p { s with inputs := rest } = .next t) :
    step { s with inputs := p :: rest } = .next t :=
  (if_neg (by simp [hrst])).trans hrun

end

/-- Settles O50: the sequencer and the push carry what the read drove to the end of the cycle, and a reset ignores the
access. -/
theorem readsChangeNothing : Obligations.ReadsChangeNothing := by
  intro s p rest a
  obtain hrst | hrst := Bool.eq_false_or_eq_true p.rst
  · exact ⟨_, 0#32, step_eq_resetCycle hrst, step_eq_resetCycle hrst⟩
  · obtain ⟨t, w, hidle, hread⟩ := runCycle_read p a { s with inputs := rest }
    exact ⟨t, w, step_eq_of_runCycle hrst hidle, step_eq_of_runCycle hrst hread⟩

/-! ## The push counts the pop -/

/-- No host access pushes or pops: only the byte source and the sequencer do (10_state.md R26). -/
theorem HostChange.fifo_eq {s t : State} (h : HostChange s t) : t.fifo = s.fifo := by
  cases h with
  | startRead _ => exact nextAttempt_phaseLocal.fifo_eq _
  | _ => rfl

/-- What the push leaves in the FIFO and OVR (20_memory.md R53). -/
theorem push_spec (p : Pins) (s : State) :
    (p.rxValid = false → (push p s).fifo = s.fifo) ∧
    (p.rxValid = true → s.fifo.length < s.build.fifoDepth → (push p s).fifo = s.fifo ++ [p.rxData]) ∧
    (p.rxValid = true → s.build.fifoDepth ≤ s.fifo.length → (push p s).fifo = s.fifo ∧ (push p s).ovr = true) := by
  obtain ⟨hv, e⟩ | ⟨hv, hroom, e⟩ | ⟨hv, hfull, e⟩ := push_cases p s <;> rw [e]
  · simp [hv]
  · simp [hv, Nat.not_le.mpr hroom]
  · simp [hv, Nat.not_lt.mpr hfull]

/-- Settles O46: the push finds the FIFO of the cycle's start, less the byte that a running phase pops. -/
theorem pushAfterPop : Obligations.PushAfterPop := by
  intro s t hrst hstep p left
  obtain ⟨hreset, -⟩ | ⟨-, u, hc, -, rfl⟩ := step_cases hstep
  · simp [hrst] at hreset
  obtain ⟨ps, n, hpins⟩ := nextPins_eq s
  rw [hpins] at hc ⊢
  have hfifo : u.fifo = s.fifo := hc.fifo_eq
  have hbuild : u.build = s.build := (ownFields_eq_iff.mp hc.ownFields_eq).1
  have hturn : (turn u).build = u.build := (ownFields_eq_iff.mp (turn_ownFields u)).1
  have hspec := push_spec p (if s.phase = .idle then u else turn u)
  rwa [apply_ite State.fifo, apply_ite State.build, turn_fifo, hturn, ite_self, hfifo, hbuild] at hspec

end Sys2Proof.Machine
end

section
/-! PROOFS. The coded words (30_encoding.md R57 to R68): a word is built of its fields and each decoder goes by them, so
encoding and decoding undo each other. -/

namespace Sys2Proof.Machine

/-! ## Words and their fields -/

theorem exists_addrOf (a : Addr) : ∃ slot lane, addrOf slot lane = a :=
  ⟨slotOf a, laneOf a, addrOf_slotOf_laneOf a⟩

theorem exists_cmdWordOf (v : Word32) : ∃ rest op, cmdWordOf rest op = v :=
  ⟨restOf v, opOf v, cmdWordOf_restOf_opOf v⟩

theorem exists_byteOf (b : Byte) : ∃ p d, byteOf p d = b :=
  ⟨pos b, low b, byteOf_pos_low b⟩

/-! ## The lookup keys -/

/-- KEY stands in a row of the lookup table (30_encoding.md R63). -/
abbrev Listed (key : BitVec 7) : Prop := (lutTable.any fun row => row.1 == key) = true

/-- The twelve listed rows each take the key of one row of the table, so LUT_X takes the rest (30_encoding.md R64). -/
theorem decodePair_of_not_listed {key : BitVec 7} (h : ¬ Listed key) (cell : Fin 4) (hb : Bool) :
    decodePair cell hb key = .lutX cell hb key := by
  have hkey : BitVec.ofNat 7 key.toNat = key := by simp
  unfold decodePair
  split
  case h_13 => rfl
  all_goals
    next e =>
      rw [e] at hkey
      subst hkey
      exact absurd (by decide) h

theorem wellFormed_lutX_iff (cell : Fin 4) (hb : Bool) (key : BitVec 7) :
    WellFormed (.lutX cell hb key) ↔ ¬ Listed key := by
  simp only [WellFormed, Instr.wellFormed, Listed, Bool.not_eq_true', Bool.not_eq_true]

/-! ## Decoding, then encoding -/

/-- `i` is well formed and `c` is its coded word. -/
def Encodes (i : Instr) (c : Code) : Prop := encode i = c ∧ WellFormed i

theorem encodes_decodeRead (a : Addr) : Encodes (decodeRead a) (.busRead a) := by
  obtain ⟨slot, lane, rfl⟩ := exists_addrOf a
  rw [decodeRead, slotOf_addrOf, laneOf_addrOf]
  fin_cases slot <;> exact ⟨rfl, rfl⟩

theorem encodes_decodeCommand (lane : BitVec 2) (v : Word32) :
    Encodes (decodeCommand lane v) (.busWrite (addrOf 0#4 lane) v) := by
  obtain ⟨rest, op, rfl⟩ := exists_cmdWordOf v
  rw [decodeCommand, opOf_cmdWordOf, restOf_cmdWordOf]
  fin_cases op <;> exact ⟨rfl, rfl⟩

theorem encodes_decodeWrite (a : Addr) (v : Word32) : Encodes (decodeWrite a v) (.busWrite a v) := by
  obtain ⟨slot, lane, rfl⟩ := exists_addrOf a
  rw [decodeWrite, slotOf_addrOf, laneOf_addrOf]
  fin_cases slot
  · exact encodes_decodeCommand lane v
  all_goals exact ⟨rfl, rfl⟩

theorem encodes_decodeFrameByte (b : Byte) : Encodes (decodeFrameByte b) (.frameByte b) := by
  obtain ⟨p, d, rfl⟩ := exists_byteOf b
  rw [decodeFrameByte, pos_byteOf, low_byteOf]
  fin_cases p <;> exact ⟨rfl, rfl⟩

theorem encodes_decodePair (cell : Fin 4) (hb : Bool) (key : BitVec 7) :
    Encodes (decodePair cell hb key) (.digitPair cell hb key) := by
  by_cases h : Listed key
  · simp only [Listed, lutTable, List.any_cons, List.any_nil, Bool.or_false, Bool.or_eq_true, beq_iff_eq] at h
    obtain rfl | rfl | rfl | rfl | rfl | rfl | rfl | rfl | rfl | rfl | rfl | rfl := h <;> exact ⟨rfl, rfl⟩
  · rw [decodePair_of_not_listed h]
    exact ⟨rfl, (wellFormed_lutX_iff cell hb key).mpr h⟩

theorem encodes_of_decodeFlag {b : Byte} {i : Instr} (h : decodeFlag b = .ok i) : Encodes i (.flagNibble b) := by
  obtain ⟨p, d, rfl⟩ := exists_byteOf b
  rw [decodeFlag, pos_byteOf, low_byteOf] at h
  fin_cases p <;> cases h <;> exact ⟨rfl, rfl⟩

/-- Settles O2: each decoder names the row of the fields it reads, and encoding puts the same fields back. -/
theorem encodeDecodeRoundTrip : Obligations.EncodeDecodeRoundTrip := by
  intro c i h
  cases c with
  | busRead a => cases h; exact encodes_decodeRead a
  | busWrite a v => cases h; exact encodes_decodeWrite a v
  | frameByte b => cases h; exact encodes_decodeFrameByte b
  | digitPair cell hb key => cases h; exact encodes_decodePair cell hb key
  | flagNibble b => exact encodes_of_decodeFlag h

/-! ## Encoding, then decoding -/

/-- Settles O1: the decoder finds in the word the fields it was built of, and they name the row; LUT_X has an unlisted
key. -/
theorem decodeEncodeRoundTrip : Obligations.DecodeEncodeRoundTrip := by
  intro i h
  cases i with
  | rdCmd | rdStatus | rdIrqEn | rdRetry | rdTimeout | rdResult | rdDigits | rdFlags | rdAlign | rdFrame0 | rdFrame1
  | rdFrame2 | rdFrame3 | rdUnmapped34 | rdUnmapped38 | rdUnmapped3C =>
    rw [encode, decode, decodeRead, slotOf_addrOf, laneOf_addrOf]
    rfl
  | nop | sync | read | cmdReserved =>
    rw [encode, decode, decodeWrite, slotOf_addrOf, laneOf_addrOf, decodeCommand, opOf_cmdWordOf, restOf_cmdWordOf]
    rfl
  | wrStatus | wrIrqEn | wrRetry | wrTimeout | wrResult | wrDigits | wrFlags | wrAlign | wrFrame0 | wrFrame1 | wrFrame2
  | wrFrame3 | wrUnmapped34 | wrUnmapped38 | wrUnmapped3C =>
    rw [encode, decode, decodeWrite, slotOf_addrOf, laneOf_addrOf]
    rfl
  | fbPos0 | fbPos1 | fbPos2 | fbPos3 | fbPos4 | fbPos5 | fbPos6 | fbPos7 | fbPos8 | fbPos9 | fbPos10 | fbPos11
  | fbPos12 | fbPos13 | fbPos14 | fbPos15 =>
    rw [encode, decode, decodeFrameByte, pos_byteOf, low_byteOf]
    rfl
  | lut1 | lut2 | lut3 | lut4 | lut5 | lut6 | lut7 | lut8 | lut9 | lut0 | lutL | lutBlank => rfl
  | lutX cell hb key =>
    exact congrArg Except.ok (decodePair_of_not_listed ((wellFormed_lutX_iff cell hb key).mp h) cell hb)
  | flagsPos1 | flagsPos10 | flagsPos11 | flagsPos12 | flagsPos13 | flagsPos14 =>
    rw [encode, decode, decodeFlag, pos_byteOf, low_byteOf]
    rfl

end Sys2Proof.Machine
end

section
/-! PROOFS. The rows that drive the decode nets (30_encoding.md R63 to R70), and the FLAGS register. -/

namespace Sys2Proof.Machine

/-! ## FLAGS -/

/-- Settles O11: each bit of `flagsWord` is reached by passing the fields below it (42_frame_decode.md R109). -/
theorem flagsRegister : Obligations.FlagsRegister := by
  refine ⟨isAt_addrOf 7#4, fun _ _ _ => rfl, fun _ s => ⟨flagsWord s.frame, rfl, ?_⟩⟩
  simp (disch := decide) only [flagsWord, flagVec, scaleVec, measVec, rsvdVec, frameBit, BitVec.getLsbD_cast,
    BitVec.getLsbD_append, Nat.reduceLT, Nat.reduceSub, reduceIte, getLsbD_ofBool_zero, BitVec.getLsbD_zero,
    BitVec.extractLsb'_cast, BitVec.extractLsb'_append_eq_of_le, BitVec.extractLsb'_append_eq_of_add_le,
    BitVec.extractLsb'_eq_self, Fin.getElem_fin, Fin.coe_ofNat_eq_mod, Nat.reduceMod, and_self]

/-- Four different bits of FLAGS each keep what they were driven with, and the others keep what they had
(30_encoding.md R68, R70). -/
theorem driveFlags_drives {n3 n2 n1 n0 : Nat} (hdistinct : [n0, n1, n2, n3].Nodup)
    (hlt : ∀ n ∈ [n0, n1, n2, n3], n < 32) (d : Nibble) (s : State) : ∃ w : Word32,
    (.next (driveFlags n3 n2 n1 n0 d s) : Result) = .next { s with out := { s.out with flags := w } } ∧
    w.getLsbD n3 = d.getLsbD 3 ∧ w.getLsbD n2 = d.getLsbD 2 ∧ w.getLsbD n1 = d.getLsbD 1 ∧
    w.getLsbD n0 = d.getLsbD 0 ∧ ∀ j : Nat, j ∉ [n3, n2, n1, n0] → w.getLsbD j = s.out.flags.getLsbD j := by
  refine ⟨_, rfl, ?_⟩
  simp only [getLsbD_putBit]
  simp_all

/-- Settles O32: each row drives four different bits of the word. -/
theorem flagRowsDriveTheirBits : Obligations.FlagRowsDriveTheirBits := fun d s =>
  ⟨driveFlags_drives (by decide) (by decide) d s, driveFlags_drives (by decide) (by decide) d s,
   driveFlags_drives (by decide) (by decide) d s, driveFlags_drives (by decide) (by decide) d s,
   driveFlags_drives (by decide) (by decide) d s, driveFlags_drives (by decide) (by decide) d s⟩

/-! ## The digit cells -/

/-- The byte of a cell as a number: HB counts 16 above the glyph code (30_encoding.md R67). -/
theorem cellCode_eq_ofNat (hb : Bool) (g : Nibble) :
    cellCode hb g = BitVec.ofNat 8 ((if hb then 16 else 0) + g.toNat) := by
  revert hb g; decide

/-- Settles O28: every row drives its cell with `cellCode` of HB and its own glyph. -/
theorem lookupRowsShowTheirGlyph : Obligations.LookupRowsShowTheirGlyph := by
  intro k hb key s shows
  have hrow (g : Nibble) : (.next (driveCell k hb g s) : Result) = .next (shows g.toNat) := by
    rw [driveCell, cellCode_eq_ofNat]
  exact ⟨hrow 1#4, hrow 2#4, hrow 3#4, hrow 4#4, hrow 5#4, hrow 6#4, hrow 7#4, hrow 8#4, hrow 9#4, hrow 0#4,
    hrow 10#4, hrow 11#4, hrow 15#4⟩

end Sys2Proof.Machine
end

section
/-! PROOFS. The commands (40_dispatch.md R77, R78, R85, R86), one turn of the sequencer (R81, R82) and the order of a
cycle (R74; log 5). -/

namespace Sys2Proof.Machine

/-! ## Commands -/

/-- Settles O16: a NOP is the identity. -/
theorem nopChangesNothing : Obligations.NopChangesNothing := fun _ _ _ => rfl

/-- Settles O17: the reserved OP is `setIgn`. -/
theorem reservedCommandSetsIgn : Obligations.ReservedCommandSetsIgn := fun _ _ _ => rfl

theorem busyGuarded_of_busy {s : State} (hb : s.busy = true) (f : State → State) : busyGuarded f s = setIgn s :=
  if_pos hb

theorem busyGuarded_of_not_busy {s : State} (hb : s.busy = false) (f : State → State) : busyGuarded f s = f s :=
  if_neg (by simp [hb])

/-- Settles O18: with BUSY = 0 the guarded command acts. -/
theorem syncAccepted : Obligations.SyncAccepted :=
  fun _ _ _ hb => congrArg Host.Outcome.next (busyGuarded_of_not_busy hb _)

/-- A READ with an attempt to spend starts the first one (43_read.md R116, R117). -/
theorem startRead_of_retryLimit {s : State} (h : s.retryLimit ≠ 0#4) :
    startRead s = beginPhase .cap 14#4 { s with
      ctx := .read, valid := false, attempt := 1#4, frame := frameZero, rxcnt := 0#4 } := by
  have hpos : 0#4 < s.retryLimit := BitVec.not_le.mp fun hle => h (BitVec.le_zero_iff.mp hle)
  exact if_pos hpos

/-- Settles O19: with BUSY = 0 the guarded command acts, and attempt 0 is below the limit. -/
theorem readAccepted : Obligations.ReadAccepted := by
  intro lane rest s hb hlimit
  have hstart := startRead_of_retryLimit (s := accept s) hlimit
  exact congrArg Host.Outcome.next ((busyGuarded_of_not_busy hb _).trans hstart)

/-- Settles O21: all four are guarded by BUSY. -/
theorem busyWritesIgnored : Obligations.BusyWritesIgnored := by
  intro lane rest v s hb
  have hguard (f : State → State) : (.next (busyGuarded f s) : Result) = .next { s with ign := true } :=
    congrArg Host.Outcome.next (busyGuarded_of_busy hb f)
  exact ⟨hguard _, hguard _, hguard _, hguard _⟩

/-! ## The sequencer's turn -/

theorem runCode_of_decode {c : Code} {i : Instr} (h : decode c = .ok i) (s : State) : runCode c s = exec i s := by
  rw [runCode, h]

/-- The timer as a saturating number (00_scope.md R7). -/
theorem satIncr_eq_ofNat (v : Word32) : satIncr v = BitVec.ofNat 32 (min (v.toNat + 1) (2 ^ 32 - 1)) := by
  rw [← satIncr_toNat, BitVec.ofNat_toNat, BitVec.setWidth_eq]

/-- Below another word the timer counts one (60_exceptions.md R144). -/
theorem satIncr_toNat_of_lt {v w : Word32} (h : v.toNat < w.toNat) : (satIncr v).toNat = v.toNat + 1 := by
  have hw := w.isLt
  rw [satIncr_toNat]
  omega

/-- Settles O36: a waiting byte is looked at before the timer, and below TIMEOUT the timer does not saturate. -/
theorem waitingByteBeatsTimeout : Obligations.WaitingByteBeatsTimeout := by
  intro s
  refine ⟨fun b rest i hfifo hdecode => ?_, fun hfifo hlt => ?_⟩
  · rw [sequencerTurn, hfifo]
    exact runCode_of_decode hdecode _
  · have hcount : satIncr s.tmr = BitVec.ofNat 32 (s.tmr.toNat + 1) := by
      rw [← satIncr_toNat_of_lt hlt, BitVec.ofNat_toNat, BitVec.setWidth_eq]
    have hempty : emptyCycle s = tick s := if_neg (Nat.not_le.mpr hlt)
    have hturn : sequencerTurn s = .next (emptyCycle s) := by rw [sequencerTurn, hfifo]
    rw [hturn, hempty, tick, hcount]

/-! ## The order of a cycle -/

/-- Once the nets have settled, the host's access leads the cycle (40_dispatch.md R74; log 5). -/
theorem runCycle_eq_andThen (p : Pins) (s : State) :
    runCycle p s = andThen (hostAccess p (settled s)) fun s2 =>
      andThen (if s.phase = .idle then .next s2 else sequencerTurn s2) fun s3 => .next (push p s3) := by
  rw [runCycle, settle_eq]
  rfl

/-- A step takes the pins of the cycle, and resets or runs it (40_dispatch.md R74). -/
theorem step_eq_ite (s : State) : step s =
    if (nextPins s).1.rst then .next (resetCycle (nextPins s).2) else runCycle (nextPins s).1 (nextPins s).2 := rfl

/-- A step with placed pins and no reset is the cycle under those pins (log 2). -/
theorem step_of_inputs {s : State} {p : Pins} {rest : List Pins} (h : s.inputs = p :: rest) (hrst : p.rst = false) :
    step s = runCycle p { s with inputs := rest } := by
  have hpins : nextPins s = (p, { s with inputs := rest }) := by rw [nextPins, h]
  rw [step_eq_ite, hpins]
  exact if_neg (by simp [hrst])

/-- Settles O38: the access of the cycle is the instruction its word decodes to, in the settled state. -/
theorem stepRunsTheHostAccess : Obligations.StepRunsTheHostAccess := by
  intro s p rest hinputs hrst s1 goesOn
  have hcycle : step s = andThen (hostAccess p s1) goesOn := by
    rw [step_of_inputs hinputs hrst, runCycle_eq_andThen]
    rfl
  refine ⟨fun c i hbus hdecode => ?_, fun hbus => ?_⟩
  · rw [hcycle, hostAccess, hbus]
    exact congrArg (andThen · goesOn) (runCode_of_decode hdecode s1)
  · rw [hcycle, hostAccess, hbus]
    rfl

end Sys2Proof.Machine
end

section
/-! PROOFS. The step is the cycle of the spec's pseudocode (40_dispatch.md R74 to R81). The spec lets the sequencer and
the byte source act before the host's write and merges the sticky bits last; the merge is the simulation: it turns each
operation on the working variables into the model's operation on the state, with the host's write already made. -/

namespace Sys2Proof.Machine

/-! ## The host's write as an update of the working variables -/

/-- A host write that starts no command and leaves the configuration: what becomes of DONE_IE, IGN and the flags of the
merge (40_dispatch.md R75, R76). -/
structure HostTouch where
  /-- On s'.DONE_IE (10_state.md R34). -/
  doneIe : Bool → Bool
  /-- On s'.IGN (40_dispatch.md R78). -/
  ign : Bool → Bool
  /-- On setIGN (40_dispatch.md R76). -/
  setIgn : Bool → Bool
  /-- On clrDONE (40_dispatch.md R76). -/
  clrDone : Bool → Bool
  /-- On clrIGN (40_dispatch.md R76). -/
  clrIgn : Bool → Bool
  /-- On clrOVR (40_dispatch.md R76). -/
  clrOvr : Bool → Bool

namespace HostTouch

/-- The write as an update of the working variables. -/
def act (x : HostTouch) (w : RefWork) : RefWork :=
  { w with
    next := { w.next with doneIe := x.doneIe w.next.doneIe, ign := x.ign w.next.ign }
    setIgn := x.setIgn w.setIgn
    clrDone := x.clrDone w.clrDone
    clrIgn := x.clrIgn w.clrIgn
    clrOvr := x.clrOvr w.clrOvr }

/-- The state that the merge gives when the host's write is `x` (40_dispatch.md R76). -/
def merged (x : HostTouch) (w : RefWork) : State := refStickyMerge (x.act w)

/-- No effect (40_dispatch.md R85). -/
def none : HostTouch := ⟨id, id, id, id, id, id⟩

/-- An ignored write (40_dispatch.md R78, R86). -/
def ignored : HostTouch := { none with ign := fun _ => true, setIgn := fun _ => true }

/-- A STATUS write (10_state.md R33). -/
def clear (d i o : Bool) : HostTouch := { none with clrDone := fun _ => d, clrIgn := fun _ => i, clrOvr := fun _ => o }

/-- An IRQ_EN write (10_state.md R34). -/
def enable (v : Bool) : HostTouch := { none with doneIe := fun _ => v }

end HostTouch

/-- The host's part of the pseudocode's cycle (40_dispatch.md R74, R75). -/
def refHost (p : Pins) (s : State) (w : RefWork) : RefWork :=
  if p.busWr then refHostWrite s (p.busAddr.toNat / 4) p.busWdata w else w

/-- Acceptance of a command in context `c` (40_dispatch.md R77). -/
def refAccept (c : Ctx) (w : RefWork) : RefWork :=
  { w with next := { w.next with busy := true, done := false, err := .none, ctx := c } }

/-- Every update that a host write of the pseudocode makes (40_dispatch.md R75, R77, R78). -/
inductive HostUpdate (s : State) : (RefWork → RefWork) → Prop
  /-- A write that acts whether or not a command runs, or is ignored. -/
  | touch (x : HostTouch) : HostUpdate s x.act
  /-- A RETRY write (10_state.md R35). -/
  | retry (v : Nibble) (hb : s.busy = false) : HostUpdate s fun w => { w with next := { w.next with retryLimit := v } }
  /-- A TIMEOUT write (10_state.md R36). -/
  | timeout (v : Word32) (hb : s.busy = false) : HostUpdate s fun w => { w with next := { w.next with timeout := v } }
  /-- An accepted SYNC (41_sync.md R88). -/
  | sync (hb : s.busy = false) : HostUpdate s fun w => refBeginPhase .mark 1#4 (refAccept .sync w)
  /-- An accepted READ that starts its first attempt (43_read.md R117). -/
  | read (hb : s.busy = false) : HostUpdate s fun w => refBeginPhase .cap 14#4
      { refAccept .read w with next := { (refAccept .read w).next with
          valid := false, attempt := 1#4, frame := frameZero, rxcnt := 0#4 } }
  /-- An accepted READ without an attempt to spend (43_read.md R118). -/
  | readFails (hb : s.busy = false) : HostUpdate s fun w => refComplete .readFailure
      { refAccept .read w with next := { (refAccept .read w).next with valid := false, attempt := 0#4 } }

theorem hostUpdate_guarded {s : State} {f : RefWork → RefWork} (h : s.busy = false → HostUpdate s f) :
    HostUpdate s fun w => if s.busy then refIgnored w else f w := by
  cases hb : s.busy with
  | true => exact .touch .ignored
  | false => exact h hb

theorem hostUpdate_startRead {s : State} (hb : s.busy = false) :
    HostUpdate s fun w => refNextAttempt s
      { refAccept .read w with next := { (refAccept .read w).next with valid := false, attempt := 0#4 } } := by
  unfold refNextAttempt
  by_cases hlt : 0#4 < s.retryLimit
  · simpa [refAccept, hlt] using HostUpdate.read hb
  · simpa [refAccept, hlt] using HostUpdate.readFails hb

theorem hostUpdate_command (s : State) (op : Nat) : HostUpdate s (refCommandWrite s op) := by
  match op with
  | 0 => exact .touch .none
  | 1 => exact hostUpdate_guarded .sync
  | 2 => exact hostUpdate_guarded hostUpdate_startRead
  | _ + 3 => exact .touch .ignored

theorem hostUpdate_write (s : State) (slot : Nat) (v : Word32) : HostUpdate s (refHostWrite s slot v) := by
  match slot with
  | 0 => exact hostUpdate_command s (v.toNat % 4)
  | 1 => exact .touch (.clear (v.getLsbD 1) (v.getLsbD 5) (v.getLsbD 6))
  | 2 => exact .touch (.enable (v.getLsbD 0))
  | 3 => exact hostUpdate_guarded (.retry _)
  | 4 => exact hostUpdate_guarded (.timeout _)
  | _ + 5 => exact .touch .none

theorem hostUpdate_refHost (p : Pins) (s : State) : HostUpdate s (refHost p s) := by
  unfold refHost
  cases p.busWr with
  | true => exact hostUpdate_write s _ _
  | false => exact .touch .none

/-- While a command runs, the host only touches (40_dispatch.md R78). -/
theorem HostUpdate.touch_of_busy {s : State} {f : RefWork → RefWork} (h : HostUpdate s f) (hb : s.busy = true) :
    ∃ x : HostTouch, f = x.act := by
  cases h with
  | touch x => exact ⟨x, rfl⟩
  | retry _ hidle | timeout _ hidle | sync hidle | read hidle | readFails hidle => simp [hb] at hidle

/-- The host's write and the byte source touch different variables, so their order in the cycle is no matter. -/
theorem HostUpdate.comm_refByteSource {s : State} {f : RefWork → RefWork} (h : HostUpdate s f) (p : Pins)
    (w : RefWork) : f (refByteSource p s w) = refByteSource p s (f w) := by
  rw [refByteSource, apply_ite f, apply_ite f]
  cases h <;> rfl

theorem HostUpdate.popped_eq {s : State} {f : RefWork → RefWork} (h : HostUpdate s f) (w : RefWork) :
    (f w).popped = w.popped := by
  cases h <;> rfl

/-! ## The merge over the operations of the sequencer -/

section
variable {x : HostTouch} {s t : State} {w w' : RefWork} {b : Byte}

/-- What the sequencer reads from the start of the cycle still stands in s' (40_dispatch.md R74). -/
structure Agrees (s : State) (w : RefWork) : Prop where
  retryLimit : w.next.retryLimit = s.retryLimit
  timeout : w.next.timeout = s.timeout
  phase : w.next.phase = s.phase
  ctx : w.next.ctx = s.ctx
  need : w.next.need = s.need
  cnt : w.next.cnt = s.cnt
  tmr : w.next.tmr = s.tmr

/-- From `w` on to `w'` the pop is not repeated, and the merge then gives `t`. -/
structure MergesTo (x : HostTouch) (w w' : RefWork) (t : State) : Prop where
  merged : x.merged w' = t
  popped : w'.popped = w.popped

/-- `MergesTo` of an operation that ends the phase or begins one (40_dispatch.md R79, R80). -/
structure MovesTo (x : HostTouch) (w w' : RefWork) (t : State) : Prop extends MergesTo x w w' t where
  moved : w'.moved = true

theorem movesTo_beginPhase (ph : Phase) (n : Nibble) :
    MovesTo x w (refBeginPhase ph n w) (beginPhase ph n (x.merged w)) :=
  ⟨⟨rfl, rfl⟩, rfl⟩

/-- A completion sets DONE, and in the merge the set wins over the host's clear (40_dispatch.md R76). -/
theorem movesTo_complete (e : Err) : MovesTo x w (refComplete e w) (complete e (x.merged w)) := by
  refine ⟨⟨?_, rfl⟩, rfl⟩
  simp only [HostTouch.merged, HostTouch.act, refStickyMerge, refComplete, complete, Bool.or_true]

theorem movesTo_nextAttempt (h : w.next.retryLimit = s.retryLimit) :
    MovesTo x w (refNextAttempt s w) (nextAttempt (x.merged w)) := by
  have hmodel : nextAttempt (x.merged w) = if w.next.attempt < s.retryLimit then
      beginPhase .cap 14#4 { x.merged w with attempt := w.next.attempt + 1#4, frame := frameZero, rxcnt := 0#4 }
      else complete .readFailure (x.merged w) := by
    rw [← h]
    rfl
  rw [hmodel, refNextAttempt]
  split
  · exact ⟨⟨rfl, rfl⟩, rfl⟩
  · exact movesTo_complete .readFailure

theorem movesTo_syncDone (h : Agrees s w) : MovesTo x w (refSyncDone s w) (syncDone (x.merged w)) := by
  have hctx : (x.merged w).ctx = s.ctx := h.ctx
  rw [refSyncDone, syncDone, hctx]
  cases s.ctx with
  | sync => exact movesTo_complete .none
  | read => exact movesTo_nextAttempt h.retryLimit

/-- NEED of the DISC phase, as a number and as a nibble (41_sync.md R92). -/
theorem ofNat_fourteen_sub (p : Nibble) (h : ¬ (p = 0#4 ∨ p = 15#4)) : BitVec.ofNat 4 (14 - p.toNat) = 14#4 - p := by
  revert p; decide

theorem movesTo_markByte (h : Agrees s w) : MovesTo x w (refMarkByte s b w) (markByte (pos b) (x.merged w)) := by
  unfold refMarkByte markByte
  split
  · exact { movesTo_complete .invalidMarker with }
  · next hvalid =>
    split
    · next hlast =>
      rw [hlast]
      exact { movesTo_syncDone (w := { w with next := { w.next with marker := 14#4 } }) { h with } with }
    · rw [ofNat_fourteen_sub _ hvalid]
      exact ⟨⟨rfl, rfl⟩, rfl⟩

/-- The end of SequencerCycle: TMR counts unless the phase has moved (40_dispatch.md R81). -/
def refCount (s : State) (w : RefWork) : RefWork :=
  if w.moved then w
  else { w with next := { w.next with tmr := BitVec.ofNat 32 (min (s.tmr.toNat + 1) (2 ^ 32 - 1)) } }

theorem MovesTo.refCount (h : MovesTo x w w' t) : MergesTo x w (refCount s w') t := by
  rw [Machine.refCount, if_pos h.moved]
  exact h.toMergesTo

/-- A cycle that leaves the phase running is `tick` (40_dispatch.md R81). -/
theorem mergesTo_refCount (htmr : w.next.tmr = s.tmr) (hmoved : w.moved = false) :
    MergesTo x w (refCount s w) (tick (x.merged w)) := by
  rw [refCount, if_neg (by simp [hmoved]), ← satIncr_eq_ofNat, ← htmr]
  exact ⟨rfl, rfl⟩

theorem mergesTo_discByte (h : Agrees s w) (hmoved : w.moved = false) :
    MergesTo x w (refCount s (refDiscByte s w)) (discByte (x.merged w)) := by
  have hmodel : discByte (x.merged w) = if s.cnt.toNat + 1 = s.need.toNat then syncDone (x.merged w)
      else tick { x.merged w with cnt := s.cnt + 1#4 } := by
    rw [← h.cnt, ← h.need]
    rfl
  rw [refDiscByte, hmodel]
  split
  · exact (movesTo_syncDone h).refCount
  · exact { mergesTo_refCount (w := { w with next := { w.next with cnt := s.cnt + 1#4 } }) h.tmr hmoved with }

/-- FRAME[CNT] <- b; RXCNT <- CNT + 1 (43_read.md R119). -/
def refStore (s : State) (b : Byte) (w : RefWork) : RefWork :=
  { w with next := { w.next with frame := w.next.frame.setIfInBounds s.cnt.toNat b, rxcnt := s.cnt + 1#4 } }

/-- CaptureDone() (43_read.md R120). -/
def refCaptureDone (w : RefWork) : RefWork :=
  if ∀ i : Fin 14, pos w.next.frame[i] = BitVec.ofNat 4 (i.val + 1) then
    refComplete .none { w with next := { w.next with valid := true } }
  else refBeginPhase .mark 1#4 w

/-- The alignment check compares each marker with its place (42_frame_decode.md R103). -/
theorem aligned_iff_pos (f : Frame) : aligned f = true ↔ ∀ i : Fin 14, pos f[i] = BitVec.ofNat 4 (i.val + 1) := by
  simp only [aligned_iff, matchBit, markerOf, beq_iff_eq]

theorem movesTo_captureDone : MovesTo x w (refCaptureDone w) (captureDone (x.merged w)) := by
  have hframe : (x.merged w).frame = w.next.frame := rfl
  rw [refCaptureDone, captureDone, hframe]
  simp only [aligned_iff_pos]
  split
  · exact { movesTo_complete (w := { w with next := { w.next with valid := true } }) .none with }
  · exact movesTo_beginPhase .mark 1#4

theorem mergesTo_capByte (h : Agrees s w) (hmoved : w.moved = false) :
    MergesTo x w (refCount s (refCapByte s b w)) (capByte b (x.merged w)) := by
  have href : refCapByte s b w = if s.cnt.toNat + 1 = 14 then refCaptureDone (refStore s b w)
      else { refStore s b w with next := { (refStore s b w).next with cnt := s.cnt + 1#4 } } := rfl
  have hmodel : capByte b (x.merged w) = if s.cnt.toNat + 1 = 14 then captureDone (x.merged (refStore s b w))
      else tick { x.merged (refStore s b w) with cnt := s.cnt + 1#4 } := by
    rw [refStore, ← h.cnt]
    rfl
  rw [href, hmodel]
  split
  · exact { (movesTo_captureDone (x := x) (w := refStore s b w)).refCount (s := s) with }
  · exact { mergesTo_refCount (w := { refStore s b w with
      next := { (refStore s b w).next with cnt := s.cnt + 1#4 } }) h.tmr hmoved with }

theorem mergesTo_phaseByte (h : Agrees s w) (hmoved : w.moved = false) (hne : s.phase ≠ .idle) :
    MergesTo x w (refCount s (refPhaseByte s b w)) (phaseByte (markByte (pos b)) b (x.merged w)) := by
  have hphase : (x.merged w).phase = s.phase := h.phase
  rw [refPhaseByte, phaseByte, hphase]
  cases hs : s.phase with
  | idle => exact absurd hs hne
  | mark => exact (movesTo_markByte h).refCount
  | disc => exact mergesTo_discByte h hmoved
  | cap => exact mergesTo_capByte h hmoved

theorem movesTo_phaseTimeout (h : Agrees s w) (hne : s.phase ≠ .idle) :
    MovesTo x w (refPhaseTimeout s w) (phaseTimeout (x.merged w)) := by
  have hphase : (x.merged w).phase = s.phase := h.phase
  rw [refPhaseTimeout, phaseTimeout, hphase]
  cases hs : s.phase with
  | idle => exact absurd hs hne
  | mark => exact movesTo_complete .noData
  | disc => exact movesTo_syncDone h
  | cap => exact movesTo_beginPhase .mark 1#4

theorem mergesTo_emptyCycle (h : Agrees s w) (hmoved : w.moved = false) (hne : s.phase ≠ .idle) :
    MergesTo x w (refCount s (if s.tmr ≥ s.timeout then refPhaseTimeout s w else w)) (emptyCycle (x.merged w)) := by
  have htimeout : (x.merged w).timeout = s.timeout := h.timeout
  have htmr : (x.merged w).tmr = s.tmr := h.tmr
  rw [emptyCycle, htimeout, htmr]
  split
  · exact (movesTo_phaseTimeout h hne).refCount
  · exact mergesTo_refCount h.tmr hmoved

/-! ## The merge over the cycle -/

/-- The working variables at the start of a cycle (40_dispatch.md R74). -/
def freshWork (s : State) : RefWork :=
  { next := s, moved := false, popped := false, setDone := false, setIgn := false, setOvr := false,
    clrDone := false, clrIgn := false, clrOvr := false }

/-- The merge turns SequencerCycle into the model's turn, and the pop is noted if there is one (40_dispatch.md R81). -/
theorem merged_sequencerCycle (h : Agrees s w) (hfifo : w.next.fifo = s.fifo) (hmoved : w.moved = false)
    (hpopped : w.popped = false) (hne : s.phase ≠ .idle) :
    x.merged (refSequencerCycle s w) = turn (x.merged w) ∧
    (refSequencerCycle s w).popped = !s.fifo.isEmpty := by
  have hstate : (x.merged w).fifo = s.fifo := hfifo
  cases hs : s.fifo with
  | nil =>
    have hturn : turn (x.merged w) = emptyCycle (x.merged w) := by rw [turn, hstate, hs]
    have href : refSequencerCycle s w = refCount s (if s.tmr ≥ s.timeout then refPhaseTimeout s w else w) := by
      rw [refSequencerCycle, hs]
      rfl
    obtain ⟨hmerged, hpop⟩ := mergesTo_emptyCycle (x := x) h hmoved hne
    rw [hturn, href]
    exact ⟨hmerged, hpop.trans hpopped⟩
  | cons b rest =>
    have hturn : turn (x.merged w) = phaseByte (markByte (pos b)) b { x.merged w with fifo := rest } := by
      rw [turn, hstate, hs]
    have href : refSequencerCycle s w =
        refCount s (refPhaseByte s b { w with next := { w.next with fifo := rest }, popped := true }) := by
      rw [refSequencerCycle, hs]
      rfl
    obtain ⟨hmerged, hpop⟩ := mergesTo_phaseByte (x := x) (b := b)
      (w := { w with next := { w.next with fifo := rest }, popped := true }) { h with } hmoved hne
    rw [hturn, href]
    exact ⟨hmerged, hpop⟩

/-- The merge turns the byte source into the model's push: a dropped byte sets OVR, whatever the host clears
(20_memory.md R53, 40_dispatch.md R76). -/
theorem merge_refByteSource (p : Pins)
    (hroom : s.fifo.length - (if w.popped then 1 else 0) = (refStickyMerge w).fifo.length)
    (hbuild : (refStickyMerge w).build = s.build) :
    refStickyMerge (refByteSource p s w) = push p (refStickyMerge w) := by
  have hdrop : refStickyMerge { w with next := { w.next with ovr := true }, setOvr := true } =
      setOvr (refStickyMerge w) := by
    simp only [refStickyMerge, setOvr, Bool.or_true]
  rw [refByteSource, hroom, ← hbuild, apply_ite refStickyMerge, apply_ite refStickyMerge, hdrop]
  rfl

/-- With nothing set or cleared the merge gives s' itself (40_dispatch.md R76). -/
@[simp] theorem merge_freshWork (s : State) : refStickyMerge (freshWork s) = s := by
  simp only [refStickyMerge, freshWork, Bool.not_false, Bool.and_true, Bool.or_false]

end

/-! ## The host's access -/

theorem toNat_div_four (a : Addr) : a.toNat / 4 = (slotOf a).toNat := by
  revert a; decide

theorem toNat_mod_four (v : Word32) : v.toNat % 4 = (opOf v).toNat := by
  simp [opOf]

section
variable {s : State}

theorem merge_ignored : refStickyMerge (refIgnored (freshWork s)) = setIgn s := by
  simp [refStickyMerge, refIgnored, freshWork, setIgn]

/-- A busy-guarded write of the pseudocode is the model's (40_dispatch.md R78). -/
theorem merge_guarded {w : RefWork} {t : State} (h : refStickyMerge w = t) :
    refStickyMerge (if s.busy then refIgnored (freshWork s) else w) = if s.busy then setIgn s else t := by
  rw [apply_ite refStickyMerge, merge_ignored, h]

theorem merge_clear (v : Word32) :
    refStickyMerge { freshWork s with clrDone := v.getLsbD 1, clrIgn := v.getLsbD 5, clrOvr := v.getLsbD 6 } =
      clearSticky (clrDoneOf v) (clrIgnOf v) (clrOvrOf v) s := by
  simp [refStickyMerge, freshWork, clearSticky, clrDoneOf, clrIgnOf, clrOvrOf]

theorem merge_retry (v : Word32) :
    refStickyMerge { freshWork s with next := { s with retryLimit := BitVec.ofNat 4 (v.toNat % 16) } } =
      { s with retryLimit := retryLimitOf v } := by
  have hlimit : BitVec.ofNat 4 (v.toNat % 16) = retryLimitOf v := by
    apply BitVec.eq_of_toNat_eq
    simp [retryLimitOf]
  rw [hlimit]
  exact merge_freshWork { s with retryLimit := retryLimitOf v }

theorem merge_startSync :
    refStickyMerge (refBeginPhase .mark 1#4 (refAccept .sync (freshWork s))) = startSync (accept s) :=
  congrArg (beginPhase .mark 1#4) (merge_freshWork { accept s with ctx := .sync })

theorem merge_startRead :
    refStickyMerge (refNextAttempt s (freshWork { accept s with ctx := .read, valid := false, attempt := 0#4 })) =
      startRead (accept s) := by
  have hmerged := (movesTo_nextAttempt (x := .none) (s := s)
    (w := freshWork { accept s with ctx := .read, valid := false, attempt := 0#4 }) rfl).merged
  exact hmerged.trans (congrArg nextAttempt (merge_freshWork _))

theorem exec_decodeCommand_eq (lane : BitVec 2) (v : Word32) :
    exec (decodeCommand lane v) s = .next (refStickyMerge (refCommandWrite s (v.toNat % 4) (freshWork s))) := by
  obtain ⟨rest, op, rfl⟩ := exists_cmdWordOf v
  rw [toNat_mod_four, decodeCommand, opOf_cmdWordOf, restOf_cmdWordOf]
  fin_cases op
  · exact congrArg Host.Outcome.next (merge_freshWork s).symm
  · exact congrArg Host.Outcome.next (merge_guarded merge_startSync).symm
  · exact congrArg Host.Outcome.next (merge_guarded merge_startRead).symm
  · exact congrArg Host.Outcome.next merge_ignored.symm

theorem exec_decodeWrite_eq (a : Addr) (v : Word32) :
    exec (decodeWrite a v) s = .next (refStickyMerge (refHostWrite s (a.toNat / 4) v (freshWork s))) := by
  obtain ⟨slot, lane, rfl⟩ := exists_addrOf a
  rw [toNat_div_four, decodeWrite, slotOf_addrOf, laneOf_addrOf]
  fin_cases slot
  · exact exec_decodeCommand_eq lane v
  · exact congrArg Host.Outcome.next (merge_clear v).symm
  · exact congrArg Host.Outcome.next (merge_freshWork { s with doneIe := v.getLsbD 0 }).symm
  · exact congrArg Host.Outcome.next (merge_guarded (merge_retry v)).symm
  · exact congrArg Host.Outcome.next (merge_guarded (merge_freshWork { s with timeout := v })).symm
  all_goals exact congrArg Host.Outcome.next (merge_freshWork s).symm

theorem exec_decodeRead_eq {p : Pins} (hwr : p.busWr = false) (hrd : p.busRd = true) :
    exec (decodeRead p.busAddr) s = .next (driveRead (refReadData p s) s) := by
  rw [refReadData, hwr, hrd, toNat_div_four]
  generalize p.busAddr = a
  obtain ⟨slot, lane, rfl⟩ := exists_addrOf a
  rw [decodeRead, slotOf_addrOf, laneOf_addrOf]
  fin_cases slot <;> rfl

end

/-! ## The cycle -/

section
variable {p : Pins} {s : State}

/-- The working variables before the byte source and the host act, the nets of the cycle driven. -/
def refSequencer (p : Pins) (s : State) : RefWork :=
  if s.phase ≠ .idle then refSequencerCycle s (freshWork { s with out := refNets p s })
  else freshWork { s with out := refNets p s }

/-- The pseudocode's cycle with the byte source last: the host's write commutes with it. -/
theorem refCycle_eq (hrst : p.rst = false) :
    refCycle p s = refStickyMerge (refByteSource p s (refHost p s (refSequencer p s))) := by
  rw [← (hostUpdate_refHost p s).comm_refByteSource, refCycle, if_neg (by simp [hrst])]
  rfl

theorem settled_eq_refNets (h : refReadData p s = 0#32) : settled s = { s with out := refNets p s } := by
  rw [refNets, h]
  rfl

/-- The host's access acts on the settled nets as its write does on fresh working variables. -/
theorem hostAccess_eq (p : Pins) (s : State) : hostAccess p (settled s) =
    .next (refStickyMerge (refHost p s (freshWork { s with out := refNets p s }))) := by
  cases hwr : p.busWr with
  | true =>
    have hdata : refReadData p s = 0#32 := by simp [refReadData, hwr]
    rw [hostAccess, busCode, if_pos hwr, refHost, if_pos hwr, ← settled_eq_refNets hdata]
    exact exec_decodeWrite_eq p.busAddr p.busWdata
  | false =>
    have hnone : ¬ p.busWr = true := by simp [hwr]
    rw [hostAccess, busCode, if_neg hnone, refHost, if_neg hnone, merge_freshWork]
    cases hrd : p.busRd with
    | true => exact exec_decodeRead_eq hwr hrd
    | false =>
      have hdata : refReadData p s = 0#32 := by simp [refReadData, hrd]
      exact congrArg Host.Outcome.next (settled_eq_refNets hdata)

/-- What the cycle hands to the byte source: the state after the host's access and the sequencer's turn, and whether a
byte was popped (40_dispatch.md R74). -/
theorem merge_refSequencer {u : State} (hrun : s.busy = true ↔ s.phase ≠ .idle)
    (hu : hostAccess p (settled s) = .next u) :
    refStickyMerge (refHost p s (refSequencer p s)) = (if s.phase = .idle then u else turn u) ∧
    (refHost p s (refSequencer p s)).popped = (s.phase ≠ .idle && !s.fifo.isEmpty) := by
  have hhost : refStickyMerge (refHost p s (freshWork { s with out := refNets p s })) = u :=
    Host.Outcome.next.inj ((hostAccess_eq p s).symm.trans hu)
  have hupdate := hostUpdate_refHost p s
  rw [hupdate.popped_eq]
  by_cases hidle : s.phase = .idle
  · rw [refSequencer, if_neg (not_not_intro hidle), hhost, if_pos hidle]
    exact ⟨rfl, by simp [hidle, freshWork]⟩
  · obtain ⟨x, hx⟩ := hupdate.touch_of_busy (hrun.mpr hidle)
    obtain ⟨hmerged, hpopped⟩ := merged_sequencerCycle (x := x) (s := s)
      (w := freshWork { s with out := refNets p s }) ⟨rfl, rfl, rfl, rfl, rfl, rfl, rfl⟩ rfl rfl rfl hidle
    rw [hx] at hhost ⊢
    rw [refSequencer, if_pos hidle, if_neg hidle, ← hhost]
    exact ⟨hmerged, by simp [hpopped, hidle]⟩

/-- A cycle with rst = 0 is the pseudocode's, where BUSY = 1 exactly when PHASE is not IDLE. -/
theorem runCycle_eq_refCycle (hrun : s.busy = true ↔ s.phase ≠ .idle) (hrst : p.rst = false) :
    runCycle p s = .next (refCycle p s) := by
  obtain ⟨u, hc, hu, hcycle⟩ := runCycle_cases p s
  obtain ⟨hmerge, hpopped⟩ := merge_refSequencer hrun hu
  have hfifo : u.fifo = s.fifo := hc.fifo_eq
  have hbuild : u.build = s.build := (ownFields_eq_iff.mp hc.ownFields_eq).1
  have hturn : (turn u).build = u.build := (ownFields_eq_iff.mp (turn_ownFields u)).1
  rw [hcycle, refCycle_eq hrst, merge_refByteSource p, hmerge]
  · rw [hmerge, hpopped]
    by_cases hidle : s.phase = .idle
    · simp [hidle, hfifo]
    · cases hs : s.fifo <;> simp [hidle, turn_fifo, hfifo, hs]
  · rw [hmerge, apply_ite State.build, hturn, ite_self, hbuild]

end

/-- Settles O43: taking the pins keeps BUSY and PHASE; a reset is the same in both, and any other cycle goes by the
merge. -/
theorem stepIsThePseudocodeCycle : Obligations.StepIsThePseudocodeCycle := by
  intro s hrun
  obtain ⟨ps, n, hpins⟩ := nextPins_eq s
  have hrun' : (nextPins s).2.busy = true ↔ (nextPins s).2.phase ≠ .idle := by rw [hpins]; exact hrun
  rw [step_eq_ite]
  cases hrst : (nextPins s).1.rst with
  | true => rw [if_pos rfl, refCycle, if_pos hrst]
  | false => rw [if_neg Bool.false_ne_true, runCycle_eq_refCycle hrun' hrst]

end Sys2Proof.Machine
end

section
/-! PROOFS. How long a command runs (40_dispatch.md R84): each cycle of a running phase counts, completes the command or
moves on to a later phase, and every one of these lowers a bound on the cycles left. -/

namespace Sys2Proof.Machine

/-! ## The moves of the sequencer -/

/-- The part of the state that says where a command is (10_state.md R25) and how long it may go on. -/
structure Control where
  /-- RETRY_LIMIT (10_state.md R16). -/
  retryLimit : Nibble
  /-- TIMEOUT (R17). -/
  timeout : Word32
  /-- BUSY (R19). -/
  busy : Bool
  /-- DONE (R20). -/
  done : Bool
  /-- PHASE (R25). -/
  phase : Phase
  /-- CTX (R25). -/
  ctx : Ctx
  /-- NEED (R25). -/
  need : Nibble
  /-- CNT (R25). -/
  cnt : Nibble
  /-- TMR (R25). -/
  tmr : Word32
  /-- ATTEMPT (R28). -/
  attempt : Nibble

/-- The control part of a state. -/
def State.control (s : State) : Control :=
  { retryLimit := s.retryLimit, timeout := s.timeout, busy := s.busy, done := s.done, phase := s.phase,
    ctx := s.ctx, need := s.need, cnt := s.cnt, tmr := s.tmr, attempt := s.attempt }

/-- The first cycle of a phase (40_dispatch.md R79). -/
def Control.begin (ph : Phase) (n : Nibble) (c : Control) : Control :=
  { c with phase := ph, need := n, cnt := 0#4, tmr := 0#32 }

/-- Everything a turn in a running phase can do to the control part (40_dispatch.md R81 to R83). -/
inductive Move (c : Control) : Control → Prop
  /-- No byte waits and the time is not up (40_dispatch.md R81). -/
  | wait (h : c.tmr < c.timeout) : Move c { c with tmr := satIncr c.tmr }
  /-- A byte of the phase, not its last (41_sync.md R93, 43_read.md R119). -/
  | count : Move c { c with cnt := c.cnt + 1#4, tmr := satIncr c.tmr }
  /-- The command completes (40_dispatch.md R80). -/
  | complete : Move c { c.begin .idle 0#4 with busy := false, done := true }
  /-- A marker byte with at most 13 bytes to discard after it (41_sync.md R92). -/
  | discard (h : c.phase = .mark) (n : Nibble) (hn : n.toNat ≤ 13) : Move c (c.begin .disc n)
  /-- A capture that failed (43_read.md R120, R122, R123). -/
  | resync (h : c.phase = .cap) : Move c (c.begin .mark 1#4)
  /-- The next attempt of a READ (43_read.md R117). -/
  | attempt (h : c.phase = .mark ∨ c.phase = .disc) (hctx : c.ctx = .read) (hlt : c.attempt < c.retryLimit) :
      Move c { c.begin .cap 14#4 with attempt := c.attempt + 1#4 }

section
variable {s t : State}

theorem nextAttempt_move (h : s.phase = .mark ∨ s.phase = .disc) (hctx : s.ctx = .read) :
    Move s.control (nextAttempt s).control := by
  obtain ⟨hlt, e⟩ | ⟨-, e⟩ := nextAttempt_cases s <;> rw [e]
  · exact .attempt h hctx hlt
  · exact .complete

theorem syncDone_move (h : s.phase = .mark ∨ s.phase = .disc) : Move s.control (syncDone s).control := by
  obtain ⟨-, e⟩ | ⟨hctx, e⟩ := syncDone_cases s <;> rw [e]
  · exact .complete
  · exact nextAttempt_move h hctx

theorem markByte_move (h : s.phase = .mark) (p : Nibble) : Move s.control (markByte p s).control := by
  unfold markByte
  split
  · exact .complete
  · next hvalid =>
    split
    · exact syncDone_move (s := { s with marker := 14#4 }) (.inl h)
    · have hn : (14#4 - p).toNat ≤ 13 := by revert hvalid; revert p; decide
      exact .discard h _ hn

theorem discByte_move (h : s.phase = .disc) : Move s.control (discByte s).control := by
  obtain ⟨-, e⟩ | ⟨-, e⟩ := discByte_cases s <;> rw [e]
  · exact syncDone_move (.inr h)
  · exact .count

theorem captureDone_move (h : s.phase = .cap) : Move s.control (captureDone s).control := by
  obtain ⟨-, e⟩ | ⟨-, e⟩ := captureDone_cases s <;> rw [e]
  · exact .complete
  · exact .resync h

theorem capByte_move (h : s.phase = .cap) (b : Byte) : Move s.control (capByte b s).control := by
  obtain ⟨-, e⟩ | ⟨-, e⟩ := capByte_cases b s <;> rw [e]
  · exact captureDone_move (s := storeByte b s) h
  · exact .count

theorem phaseByte_move (hne : s.phase ≠ .idle) (p : Nibble) (b : Byte) :
    Move s.control (phaseByte (markByte p) b s).control := by
  obtain ⟨h, -⟩ | ⟨h, e⟩ | ⟨h, e⟩ | ⟨h, e⟩ := phaseByte_cases (markByte p) b s
  · exact absurd h hne
  · rw [e]; exact markByte_move h p
  · rw [e]; exact discByte_move h
  · rw [e]; exact capByte_move h b

theorem emptyCycle_move (hne : s.phase ≠ .idle) : Move s.control (emptyCycle s).control := by
  obtain ⟨hlt, e⟩ | ⟨-, ⟨h, -⟩ | ⟨-, e⟩ | ⟨h, e⟩ | ⟨h, e⟩⟩ := emptyCycle_cases s
  · rw [e]; exact .wait hlt
  · exact absurd h hne
  · rw [e]; exact .complete
  · rw [e]; exact syncDone_move (.inr h)
  · rw [e]; exact .resync h

theorem turn_move (hne : s.phase ≠ .idle) : Move s.control (turn s).control := by
  unfold turn
  split
  · next b rest _ => exact phaseByte_move (s := { s with fifo := rest }) hne (pos b) b
  · exact emptyCycle_move hne

/-! ## The moves of a step -/

/-- While a command runs the host may clear DONE and nothing else of the control part (40_dispatch.md R78). -/
theorem HostChange.control_eq (h : HostChange s t) (hb : s.busy = true) :
    t.control = { s.control with done := t.done } := by
  cases h with
  | retry _ hidle | timeout _ hidle | sync hidle | startRead hidle => simp [hb] at hidle
  | _ => rfl

@[simp] theorem push_control (p : Pins) (s : State) : (push p s).control = s.control := by
  obtain ⟨-, e⟩ | ⟨-, -, e⟩ | ⟨-, -, e⟩ := push_cases p s <;> rw [e] <;> rfl

/-- A step of a running command without reset: the host may have changed DONE, then the sequencer moves. -/
theorem step_move (hstep : step s = .next t) (hrst : (nextPins s).1.rst = false) (hb : s.busy = true)
    (hne : s.phase ≠ .idle) : ∃ d, Move { s.control with done := d } t.control := by
  obtain ⟨hreset, -⟩ | ⟨-, u, hc, -, rfl⟩ := step_cases hstep
  · simp [hrst] at hreset
  obtain ⟨ps, n, hpins⟩ := nextPins_eq s
  rw [hpins] at hc ⊢
  have hu : u.control = { s.control with done := u.done } := hc.control_eq hb
  have hphase : u.phase = s.phase := hc.phase_eq hb
  have hmove : Move u.control (turn u).control := turn_move (by rwa [hphase])
  rw [hu] at hmove
  rw [push_control, if_neg hne]
  exact ⟨u.done, hmove⟩

/-- With PHASE = IDLE no cycle without reset makes BUSY fall. -/
theorem step_busy_of_idle (hstep : step s = .next t) (hrst : (nextPins s).1.rst = false) (hb : s.busy = true)
    (hidle : s.phase = .idle) : t.busy = true := by
  obtain ⟨hreset, -⟩ | ⟨-, u, hc, -, rfl⟩ := step_cases hstep
  · simp [hrst] at hreset
  obtain ⟨ps, n, hpins⟩ := nextPins_eq s
  rw [hpins] at hc ⊢
  have hu : u.busy = s.busy := congrArg Control.busy (hc.control_eq hb)
  rw [push_busy, if_pos hidle, hu, hb]

end

/-- The one move that ends a command (40_dispatch.md R80). -/
theorem Move.completed {c c' : Control} (h : Move c c') (hb : c.busy = true) (hb' : c'.busy = false) :
    c' = { c.begin .idle 0#4 with busy := false, done := true } := by
  cases h with
  | complete => rfl
  | _ => simp [Control.begin, hb] at hb'

/-- Settles O47: of the sequencer's moves only the completion clears BUSY, and it comes after the host's clear of
DONE. -/
theorem busyFallsOnlyWithDone : Obligations.BusyFallsOnlyWithDone := by
  intro s t hrst hstep hb hb'
  have hne : s.phase ≠ .idle := by
    intro hidle
    simp [step_busy_of_idle hstep hrst hb hidle] at hb'
  obtain ⟨d, hmove⟩ := step_move hstep hrst hb hne
  have hcontrol := hmove.completed hb hb'
  exact ⟨congrArg Control.done hcontrol, congrArg Control.phase hcontrol, congrArg Control.need hcontrol,
    congrArg Control.cnt hcontrol, congrArg Control.tmr hcontrol⟩

/-! ## The cycles left -/

/-- The most cycles of the phases that may follow `ph` in the same attempt (40_dispatch.md R84). -/
def Phase.cyclesAfter (timeout : Nat) : Phase → Nat
  | .idle | .disc => 0
  | .mark => timeout + 13
  | .cap => (timeout + 1) + (timeout + 13)

namespace Control

/-- The most cycles that the phase goes on: it waits while TMR is below TIMEOUT, and takes NEED bytes. -/
def phaseLeft (c : Control) : Nat := (c.timeout.toNat - c.tmr.toNat) + (c.need.toNat - c.cnt.toNat)

/-- The most cycles of one attempt: a CAP, a MARK and a DISC phase (40_dispatch.md R84). -/
def attemptCycles (c : Control) : Nat :=
  (c.timeout.toNat + 14) + (c.timeout.toNat + 1) + (c.timeout.toNat + 13)

/-- The attempts that may still follow this one (43_read.md R117); a SYNC has none. -/
def attemptsLeft (c : Control) : Nat :=
  match c.ctx with
  | .sync => 0
  | .read => c.retryLimit.toNat - c.attempt.toNat

/-- The most cycles that the command goes on (40_dispatch.md R84). -/
def commandLeft (c : Control) : Nat :=
  c.phaseLeft + c.phase.cyclesAfter c.timeout.toNat + c.attemptsLeft * c.attemptCycles

end Control

section
variable {c c' : Control}

theorem phaseLeft_pos (hcnt : c.cnt < c.need) : 0 < c.phaseLeft := by
  have hlt : c.cnt.toNat < c.need.toNat := hcnt
  unfold Control.phaseLeft
  omega

theorem commandLeft_pos (hcnt : c.cnt < c.need) : 0 < c.commandLeft := by
  have hpos := phaseLeft_pos hcnt
  unfold Control.commandLeft
  omega

theorem phaseLeft_wait (h : c.tmr < c.timeout) :
    Control.phaseLeft { c with tmr := satIncr c.tmr } < c.phaseLeft := by
  have hlt : c.tmr.toNat < c.timeout.toNat := h
  have htmr : (satIncr c.tmr).toNat = c.tmr.toNat + 1 := satIncr_toNat_of_lt hlt
  simp only [Control.phaseLeft, htmr]
  omega

/-- A byte taken is worth a cycle, and the timer does not go back (00_scope.md R7). -/
theorem phaseLeft_count (hcnt : c.cnt < c.need) :
    Control.phaseLeft { c with cnt := c.cnt + 1#4, tmr := satIncr c.tmr } < c.phaseLeft := by
  have hlt : c.cnt.toNat < c.need.toNat := hcnt
  have hsucc : (c.cnt + 1#4).toNat = c.cnt.toNat + 1 := toNat_add_one_of_lt hcnt
  have htmr := satIncr_toNat c.tmr
  have hmax := c.timeout.isLt
  simp only [Control.phaseLeft, hsucc]
  omega

theorem commandLeft_begin (ph : Phase) (n : Nibble) : (c.begin ph n).commandLeft =
    c.timeout.toNat + n.toNat + ph.cyclesAfter c.timeout.toNat + c.attemptsLeft * c.attemptCycles := rfl

/-- An attempt begun leaves one attempt less for later (43_read.md R117). -/
theorem commandLeft_beginAttempt (hctx : c.ctx = .read) (hlt : c.attempt < c.retryLimit) :
    Control.commandLeft { c.begin .cap 14#4 with attempt := c.attempt + 1#4 } =
      c.attemptsLeft * c.attemptCycles := by
  have hsucc : (c.attempt + 1#4).toNat = c.attempt.toNat + 1 := toNat_add_one_of_lt hlt
  have hnat : c.attempt.toNat < c.retryLimit.toNat := hlt
  obtain ⟨k, hk⟩ : ∃ k, c.retryLimit.toNat - c.attempt.toNat = k + 1 := ⟨_, (Nat.succ_pred (by omega)).symm⟩
  have hpred : c.retryLimit.toNat - (c.attempt.toNat + 1) = k := by omega
  simp only [Control.commandLeft, Control.begin, Control.phaseLeft, Control.attemptsLeft, Control.attemptCycles,
    Phase.cyclesAfter, hctx, hsucc, hk, hpred, BitVec.toNat_ofNat, Nat.succ_mul]
  omega

/-- A move to another phase, or one cycle of the phase less (40_dispatch.md R84). -/
theorem Move.phaseLeft_lt (h : Move c c') (hne : c.phase ≠ .idle) (hcnt : c.cnt < c.need) :
    c'.phase ≠ c.phase ∨ c'.phaseLeft < c.phaseLeft := by
  cases h with
  | wait h => exact .inr (phaseLeft_wait h)
  | count => exact .inr (phaseLeft_count hcnt)
  | complete => exact .inl hne.symm
  | discard h n _ => exact .inl (by simp [Control.begin, h])
  | resync h => exact .inl (by simp [Control.begin, h])
  | attempt h _ _ =>
    obtain h | h := h <;> exact .inl (by simp [Control.begin, h])

/-- Every move completes the command or leaves it one cycle less (40_dispatch.md R84). -/
theorem Move.commandLeft_lt (h : Move c c') (hcnt : c.cnt < c.need) :
    c'.busy = false ∨ c'.commandLeft < c.commandLeft := by
  have hpos := phaseLeft_pos hcnt
  cases h with
  | wait h => exact .inr (Nat.add_lt_add_right (Nat.add_lt_add_right (phaseLeft_wait h) _) _)
  | count => exact .inr (Nat.add_lt_add_right (Nat.add_lt_add_right (phaseLeft_count hcnt) _) _)
  | complete => exact .inl rfl
  | discard h n hn =>
    refine .inr ?_
    rw [commandLeft_begin, Control.commandLeft, h]
    simp only [Phase.cyclesAfter]
    omega
  | resync h =>
    refine .inr ?_
    rw [commandLeft_begin, Control.commandLeft, h]
    simp only [Phase.cyclesAfter, BitVec.toNat_ofNat]
    omega
  | attempt _ hctx hlt =>
    refine .inr ?_
    rw [commandLeft_beginAttempt hctx hlt, Control.commandLeft]
    omega

end

/-! ## Runs -/

/-- Every step answers a next state (60_exceptions.md R128). -/
theorem exists_step (s : State) : ∃ t, step s = .next t := by
  obtain ⟨u, -, -, hrun⟩ := runCycle_cases (nextPins s).1 (nextPins s).2
  rw [step_eq_ite, hrun]
  split <;> exact ⟨_, rfl⟩

theorem runsTo_succ {k : Nat} {s t u : State} (hstep : step s = .next u) (hrun : RunsTo k u t) :
    RunsTo (k + 1) s t := by
  have hcore : Sys2Proof.core.step s = .next u := hstep
  simpa only [RunsTo, Host.Core.run, hcore] using hrun

/-- A rank that every step lowers until `P` holds bounds the cycles until it does. -/
theorem exists_run_of_rank {P : State → Prop} (rank : State → Nat)
    (hrank : ∀ s, Inv s → ¬ P s → 0 < rank s ∧ ∀ t, step s = .next t → P t ∨ rank t < rank s)
    {s : State} (hinv : Inv s) : ∃ k t, k ≤ rank s ∧ RunsTo k s t ∧ P t := by
  induction hn : rank s using Nat.strong_induction_on generalizing s with
  | h n ih =>
    by_cases hs : P s
    · exact ⟨0, s, Nat.zero_le _, rfl, hs⟩
    · obtain ⟨hpos, hnext⟩ := hrank s hinv hs
      obtain ⟨u, hu⟩ := exists_step s
      obtain hdone | hlt := hnext u hu
      · exact ⟨1, u, hn ▸ hpos, runsTo_succ hu rfl, hdone⟩
      · rw [hn] at hlt
        obtain ⟨k, t, hk, hrun, ht⟩ := ih (rank u) hlt (invariantKeptByEveryStep s u hinv hu) rfl
        exact ⟨k + 1, t, by omega, runsTo_succ hu hrun, ht⟩

section
variable {s t : State}

/-- A step in a running phase is a reset, or a move that the host's clear of DONE does not disturb. -/
theorem step_running (hinv : Inv s) (hne : s.phase ≠ .idle) (hstep : step s = .next t) :
    (t.phase = .idle ∧ t.busy = false) ∨ ∃ d, Move { s.control with done := d } t.control := by
  cases hrst : (nextPins s).1.rst with
  | true =>
    obtain ⟨-, rfl⟩ | ⟨hno, -⟩ := step_cases hstep
    · exact .inl ⟨rfl, rfl⟩
    · simp [hrst] at hno
  | false => exact .inr (step_move hstep hrst (hinv.busy_iff_running.mpr hne) hne)

/-- A running command completes, or is reset, within the cycles left to it. -/
theorem exists_run_not_busy (hinv : Inv s) :
    ∃ k t, k ≤ s.control.commandLeft ∧ RunsTo k s t ∧ t.busy = false := by
  refine exists_run_of_rank (fun s => s.control.commandLeft) (fun s hinv hbusy => ?_) hinv
  have hne : s.phase ≠ .idle := hinv.busy_iff_running.mp (Bool.eq_true_of_not_eq_false hbusy)
  have hcnt : s.control.cnt < s.control.need := hinv.count_below_need hne
  refine ⟨commandLeft_pos hcnt, fun t hstep => ?_⟩
  obtain ⟨-, hreset⟩ | ⟨d, hmove⟩ := step_running hinv hne hstep
  · exact .inl hreset
  · exact hmove.commandLeft_lt hcnt

end

/-- Settles O54: in a phase `phaseLeft` falls with every step until the phase changes. -/
theorem phasesEndInTime : Obligations.PhasesEndInTime := by
  intro s hinv hne
  refine exists_run_of_rank (P := fun t => t.phase ≠ s.phase) (fun t => t.control.phaseLeft)
    (fun u hu hphase => ?_) hinv
  have hne' : u.phase ≠ .idle := by rwa [not_not.mp hphase]
  have hcnt : u.control.cnt < u.control.need := hu.count_below_need hne'
  refine ⟨phaseLeft_pos hcnt, fun t hstep => ?_⟩
  rw [← not_not.mp hphase]
  obtain ⟨hreset, -⟩ | ⟨d, hmove⟩ := step_running hu hne' hstep
  · exact .inl (hreset ▸ hne'.symm)
  · exact hmove.phaseLeft_lt hne' hcnt

/-- Settles O55: in the first cycle of the MARK phase of a SYNC a MARK and a DISC phase are left, and no attempt. -/
theorem syncCompletesInTime : Obligations.SyncCompletesInTime := by
  intro s hinv hctx hphase htmr
  obtain ⟨k, t, hk, hrun, hbusy⟩ := exists_run_not_busy hinv
  refine ⟨k, t, hk.trans ?_, hrun, hbusy⟩
  simp [Control.commandLeft, Control.phaseLeft, Control.attemptsLeft, Phase.cyclesAfter, State.control, hctx, hphase,
    htmr, hinv.need_in_mark hphase]

/-- Settles O56: in the first cycle of an attempt that attempt is left, and those after it. -/
theorem readCompletesInTime : Obligations.ReadCompletesInTime := by
  intro s hinv hphase hcnt htmr
  obtain ⟨k, t, hk, hrun, hbusy⟩ := exists_run_not_busy hinv
  obtain ⟨hneed, hctx, -⟩ := hinv.need_in_cap hphase
  refine ⟨k, t, hk.trans ?_, hrun, hbusy⟩
  simp only [Control.commandLeft, Control.phaseLeft, Control.attemptsLeft, Control.attemptCycles, Phase.cyclesAfter,
    State.control, hctx, hphase, hcnt, htmr, hneed, Nat.succ_mul, BitVec.toNat_ofNat]
  omega

end Sys2Proof.Machine
end

section
/-! PROOFS. Synchronization (41_sync.md): what a MARK phase does with its byte, a DISC phase with each of its bytes, and
both with a timeout; and what a SYNC leaves alone. -/

namespace Sys2Proof.Machine

section
variable {s t : State}

/-! ## SyncDone -/

theorem syncDone_of_sync (h : s.ctx = .sync) : syncDone s = complete .none s := by
  rw [syncDone, h]

theorem syncDone_of_read (h : s.ctx = .read) : syncDone s = nextAttempt s := by
  rw [syncDone, h]

theorem nextAttempt_of_lt (h : s.attempt < s.retryLimit) : nextAttempt s =
    beginPhase .cap 14#4 { s with attempt := s.attempt + 1#4, frame := frameZero, rxcnt := 0#4 } :=
  if_pos h

theorem nextAttempt_of_le (h : s.retryLimit ≤ s.attempt) : nextAttempt s = complete .readFailure s :=
  if_neg (BitVec.not_lt.mpr h)

/-- Settles O25: the context decides, and inside a READ the attempts left. -/
theorem syncDoneOutcomes : Obligations.SyncDoneOutcomes := by
  intro s
  refine ⟨syncDone_of_sync, fun hctx hlt => ?_, fun hctx hle => ?_⟩
  · rw [syncDone_of_read hctx, nextAttempt_of_lt hlt]
    rfl
  · rw [syncDone_of_read hctx, nextAttempt_of_le hle]
    rfl

/-! ## The byte of a phase -/

theorem phaseByte_of_mark (h : s.phase = .mark) (onMark : State → State) (b : Byte) :
    phaseByte onMark b s = onMark s := by
  rw [phaseByte, h]

theorem phaseByte_of_disc (h : s.phase = .disc) (onMark : State → State) (b : Byte) :
    phaseByte onMark b s = discByte s := by
  rw [phaseByte, h]

/-- Settles O22: in a MARK phase both classes complete with the invalid marker. -/
theorem invalidMarkerBytes : Obligations.InvalidMarkerBytes := by
  intro d s hmark
  have hbyte (p : Nibble) (b : Byte) : phaseByte (markInvalid p) b s = markInvalid p s := phaseByte_of_mark hmark _ b
  exact ⟨congrArg Host.Outcome.next (hbyte 0#4 _), congrArg Host.Outcome.next (hbyte 15#4 _)⟩

/-- Settles O23: in a MARK phase the class acts as `markLast`. -/
theorem markerFourteenEndsSync : Obligations.MarkerFourteenEndsSync :=
  fun _ _ hmark => congrArg Host.Outcome.next (phaseByte_of_mark hmark markLast _)

/-- Settles O24: in a MARK phase the class of position p acts as `markDiscard` p. -/
theorem markerBeginsDiscard : Obligations.MarkerBeginsDiscard := by
  intro d s hmark discards
  have hbyte (p : Nibble) (b : Byte) :
      (.next (phaseByte (markDiscard p) b s) : Result) = .next (discards p (14#4 - p)) :=
    congrArg Host.Outcome.next (phaseByte_of_mark hmark (markDiscard p) b)
  exact ⟨hbyte 1#4 _, hbyte 2#4 _, hbyte 3#4 _, hbyte 4#4 _, hbyte 5#4 _, hbyte 6#4 _, hbyte 7#4 _, hbyte 8#4 _,
    hbyte 9#4 _, hbyte 10#4 _, hbyte 11#4 _, hbyte 12#4 _, hbyte 13#4 _⟩

theorem markByte_of_le_thirteen {p : Nibble} (hlow : 1 ≤ p.toNat) (hhigh : p.toNat ≤ 13) (s : State) :
    markByte p s = markDiscard p s := by
  have hvalid : ¬ (p = 0#4 ∨ p = 15#4) := by rintro (rfl | rfl) <;> simp at hlow hhigh
  have hmore : p ≠ 14#4 := by rintro rfl; simp at hhigh
  rw [markByte, if_neg hvalid, if_neg hmore]

theorem discByte_of_last (h : s.cnt.toNat + 1 = s.need.toNat) : discByte s = syncDone s := if_pos h

theorem discByte_of_lt (h : s.cnt.toNat + 1 < s.need.toNat) : discByte s = tick { s with cnt := s.cnt + 1#4 } :=
  if_neg (Nat.ne_of_lt h)

/-- The class of position `p` is the one a byte of that position decodes to (30_encoding.md R60). -/
theorem decodeFrameByte_byteOf (p : Fin 16) (d : Nibble) :
    decodeFrameByte (byteOf (BitVec.ofNat 4 p.val) d) = fbInstr p d := by
  rw [decodeFrameByte, pos_byteOf, low_byteOf]
  fin_cases p <;> rfl

/-- Every class of stream byte acts as the phase says (40_dispatch.md R83). -/
theorem exec_fbInstr (p : Fin 16) (d : Nibble) (s : State) : exec (fbInstr p d) s =
    .next (phaseByte (markByte (BitVec.ofNat 4 p.val)) (byteOf (BitVec.ofNat 4 p.val) d) s) := by
  rw [← decodeFrameByte_byteOf, exec_decodeFrameByte, pos_byteOf]

/-- Settles O26: a DISC phase does not look at the class. -/
theorem discardedBytes : Obligations.DiscardedBytes := by
  intro p d s hdisc
  rw [exec_fbInstr, phaseByte_of_disc hdisc]
  refine ⟨fun hlast => congrArg Host.Outcome.next (discByte_of_last hlast), fun hlt => ?_⟩
  rw [discByte_of_lt hlt, tick, satIncr_eq_ofNat]

/-! ## The timeout of a phase -/

theorem sequencerTurn_of_timeout (hfifo : s.fifo = []) (hle : s.timeout ≤ s.tmr) :
    sequencerTurn s = .next (phaseTimeout s) := by
  have hempty : emptyCycle s = phaseTimeout s := if_pos hle
  rw [sequencerTurn_eq, turn, hfifo, hempty]

/-- Settles O37: the timeout goes by the phase. -/
theorem phaseTimeouts : Obligations.PhaseTimeouts := by
  intro s hfifo hle
  rw [sequencerTurn_of_timeout hfifo hle, phaseTimeout]
  refine ⟨fun hmark => ?_, fun hdisc => ?_, fun hcap => ?_⟩
  · rw [hmark]
    rfl
  · rw [hdisc]
  · rw [hcap]
    rfl

/-! ## What a SYNC leaves alone -/

/-- The results of a READ: FRAME, VALID, ATTEMPT and RXCNT (41_sync.md R88). -/
def State.results (s : State) : Frame × Bool × Nibble × Nibble := (s.frame, s.valid, s.attempt, s.rxcnt)

theorem results_eq_iff : t.results = s.results ↔
    t.frame = s.frame ∧ t.valid = s.valid ∧ t.attempt = s.attempt ∧ t.rxcnt = s.rxcnt := by
  simp only [State.results, Prod.mk.injEq]

theorem syncDone_results (h : s.ctx = .sync) : (syncDone s).results = s.results := by
  rw [syncDone_of_sync h]
  rfl

theorem markByte_results (h : s.ctx = .sync) (p : Nibble) : (markByte p s).results = s.results := by
  unfold markByte
  split
  · rfl
  · split
    · exact syncDone_results (s := { s with marker := 14#4 }) h
    · rfl

theorem discByte_results (h : s.ctx = .sync) : (discByte s).results = s.results := by
  obtain ⟨-, e⟩ | ⟨-, e⟩ := discByte_cases s <;> rw [e]
  · exact syncDone_results h
  · rfl

theorem phaseByte_results (h : s.ctx = .sync) (hcap : s.phase ≠ .cap) (p : Nibble) (b : Byte) :
    (phaseByte (markByte p) b s).results = s.results := by
  obtain ⟨-, e⟩ | ⟨-, e⟩ | ⟨-, e⟩ | ⟨hphase, -⟩ := phaseByte_cases (markByte p) b s
  · rw [e]
  · rw [e, markByte_results h]
  · rw [e, discByte_results h]
  · exact absurd hphase hcap

theorem emptyCycle_results (h : s.ctx = .sync) : (emptyCycle s).results = s.results := by
  obtain ⟨-, e⟩ | ⟨-, ⟨-, e⟩ | ⟨-, e⟩ | ⟨-, e⟩ | ⟨-, e⟩⟩ := emptyCycle_cases s <;> rw [e]
  case inr.inr.inr.inl => exact syncDone_results h
  all_goals rfl

/-- Only a CAP phase and the next attempt of a READ write the results, and a SYNC has neither (43_read.md R117,
R119). -/
theorem turn_results (h : s.ctx = .sync) (hcap : s.phase ≠ .cap) : (turn s).results = s.results := by
  unfold turn
  split
  · next b rest _ => exact phaseByte_results (s := { s with fifo := rest }) h hcap (pos b) b
  · exact emptyCycle_results h

@[simp] theorem push_results (p : Pins) (s : State) : (push p s).results = s.results := by
  obtain ⟨-, e⟩ | ⟨-, -, e⟩ | ⟨-, -, e⟩ := push_cases p s <;> rw [e] <;> rfl

/-- While a command runs the host reaches DONE and the bystanders alone (40_dispatch.md R78). -/
theorem HostChange.eq_setBystanders (h : HostChange s t) (hb : s.busy = true) :
    t = { s with done := t.done }.setBystanders t.bystanders := by
  cases h with
  | retry _ hidle | timeout _ hidle | sync hidle | startRead hidle => simp [hb] at hidle
  | _ => rfl

end

/-- Settles O49: neither the host's access, nor a turn of a SYNC, nor the push writes the results. -/
theorem syncLeavesResults : Obligations.SyncLeavesResults := by
  intro s t hinv hb hctx hrst hstep
  obtain ⟨hreset, -⟩ | ⟨-, u, hc, -, rfl⟩ := step_cases hstep
  · simp [hrst] at hreset
  obtain ⟨ps, n, hpins⟩ := nextPins_eq s
  rw [hpins] at hc ⊢
  have hu := hc.eq_setBystanders hb
  have hresults : u.results = s.results := by rw [hu]; rfl
  have hctx' : u.ctx = .sync := by rw [hu]; exact hctx
  have hcap : u.phase ≠ .cap := by
    rw [hc.phase_eq hb]
    intro hphase
    obtain ⟨-, hread, -⟩ := hinv.need_in_cap hphase
    simp [hctx] at hread
  rw [← results_eq_iff, push_results, apply_ite State.results, turn_results hctx' hcap, ite_self, hresults]

end Sys2Proof.Machine
end

section
/-! PROOFS. A SYNC whose bytes wait (41_sync.md R97, 70_reset_and_hazards.md R163): each cycle of a running phase that
finds a byte waiting is that byte's rule, up to what the host and the byte source may touch. -/

namespace Sys2Proof.Machine

/-! ## A cycle that finds a byte waiting -/

/-- The push changes no more than the bystanders, and only adds to the FIFO (20_memory.md R53). -/
theorem push_eq_setBystanders (p : Pins) (s : State) :
    ∃ (x : Bystanders) (pushed : List Byte), x.fifo = s.fifo ++ pushed ∧ push p s = s.setBystanders x := by
  obtain ⟨-, e⟩ | ⟨-, -, e⟩ | ⟨-, -, e⟩ := push_cases p s <;> rw [e]
  · exact ⟨s.bystanders, [], (List.append_nil _).symm, rfl⟩
  · exact ⟨{ s.bystanders with fifo := s.fifo ++ [p.rxData] }, [p.rxData], rfl, rfl⟩
  · exact ⟨{ s.bystanders with ovr := true }, [], (List.append_nil _).symm, rfl⟩

theorem turn_of_fifo {s : State} {b : Byte} {rest : List Byte} (h : s.fifo = b :: rest) :
    turn s = phaseByte (markByte (pos b)) b { s with fifo := rest } := by
  rw [turn, h]

/-- A cycle of a running phase that finds a byte waiting: the byte's rule, up to a host clear of DONE and the
bystanders, whatever the host and the byte source do (40_dispatch.md R74, R78, R81). -/
theorem runCycle_of_fifo {s : State} {b : Byte} {rest : List Byte} (p : Pins) (hb : s.busy = true)
    (hne : s.phase ≠ .idle) (hfifo : s.fifo = b :: rest) : ∃ (d : Bool) (x : Bystanders) (pushed : List Byte),
      x.fifo = rest ++ pushed ∧
      runCycle p s = .next ((phaseByte (markByte (pos b)) b { s with done := d }).setBystanders x) := by
  obtain ⟨u, hc, -, hrun⟩ := runCycle_cases p s
  have hlocal : PhaseLocal (phaseByte (markByte (pos b)) b) := phaseByte_phaseLocal (markByte_phaseLocal (pos b)) b
  have hpopped : { u with fifo := rest } =
      { s with done := u.done }.setBystanders { u.bystanders with fifo := rest } :=
    congrArg (fun v : State => { v with fifo := rest }) (hc.eq_setBystanders hb)
  have hturn : turn u = (phaseByte (markByte (pos b)) b { s with done := u.done }).setBystanders
      { u.bystanders with fifo := rest } := by
    rw [turn_of_fifo (hc.fifo_eq.trans hfifo), hpopped, hlocal]
  obtain ⟨x, pushed, hx, hpush⟩ := push_eq_setBystanders p (turn u)
  rw [hturn] at hx
  rw [if_neg hne, hpush, hturn] at hrun
  exact ⟨u.done, x, pushed, hx, hrun⟩

/-- The bytes `bs` wait, `rest` behind them, and the pins `ps` of as many cycles are placed, without reset, `more`
behind them. -/
structure Waiting (ps more : List Pins) (bs rest : List Byte) (s : State) : Prop where
  inputs : s.inputs = ps ++ more
  no_reset : ∀ p ∈ ps, p.rst = false
  fifo : s.fifo = bs ++ rest
  one_each : ps.length = bs.length

/-- In a running phase the first waiting byte is the next cycle's, and the others go on waiting (40_dispatch.md R81). -/
theorem Waiting.exists_step {ps more : List Pins} {b : Byte} {bs rest : List Byte} {s : State}
    (h : Waiting ps more (b :: bs) rest s) (hb : s.busy = true) (hne : s.phase ≠ .idle) :
    ∃ (d : Bool) (x : Bystanders) (t : State) (ps' : List Pins) (pushed : List Byte), step s = .next t ∧
      t = (phaseByte (markByte (pos b)) b { s with inputs := ps' ++ more, done := d }).setBystanders x ∧
      Waiting ps' more bs (rest ++ pushed) t := by
  obtain ⟨hinputs, hreset, hfifo, hlen⟩ := h
  obtain ⟨p, ps, rfl⟩ := List.exists_cons_of_length_eq_add_one hlen
  obtain ⟨d, x, pushed, hx, hrun⟩ :=
    runCycle_of_fifo (s := { s with inputs := ps ++ more }) p hb hne hfifo
  have hstep := (step_of_inputs hinputs (hreset p List.mem_cons_self)).trans hrun
  have hreset' : ∀ q ∈ ps, q.rst = false := fun q hq => hreset q (List.mem_cons_of_mem p hq)
  refine ⟨d, x, _, ps, pushed, hstep, rfl, ?_, hreset', ?_, Nat.succ.inj hlen⟩
  · obtain ⟨-, hdrop, -⟩ := everyStepTakesOnePinRecord s _ hstep
    rw [hdrop, hinputs]
    rfl
  · exact hx.trans (List.append_assoc bs rest pushed)

/-! ## The run -/

/-- From `s` a SYNC is busy for exactly `n` cycles and then complete with NONE, MARKER is `m`, and what is left is
`rest` with the bytes pushed meanwhile behind it, and the pins `more`. -/
def SyncsIn (n : Nat) (m : Nibble) (rest : List Byte) (more : List Pins) (s : State) : Prop :=
  (∀ k < n, ∃ t : State, RunsTo k s t ∧ t.busy = true) ∧
  ∃ (t : State) (pushed : List Byte), RunsTo n s t ∧ t.busy = false ∧ t.done = true ∧
    t.err = .none ∧ t.marker = m ∧ t.fifo = rest ++ pushed ∧ t.inputs = more

theorem SyncsIn.of_step {n : Nat} {m : Nibble} {rest pushed : List Byte} {more : List Pins} {s t : State}
    (h : SyncsIn n m (rest ++ pushed) more t) (hstep : step s = .next t) (hb : s.busy = true) :
    SyncsIn (n + 1) m rest more s := by
  obtain ⟨hbusy, u, pushed', hrun, hu, hdone, herr, hm, hfifo, hinputs⟩ := h
  refine ⟨fun k hk => ?_, u, pushed ++ pushed', runsTo_succ hstep hrun, hu, hdone, herr, hm, ?_, hinputs⟩
  · cases k with
    | zero => exact ⟨s, rfl, hb⟩
    | succ k =>
      obtain ⟨v, hv, hvb⟩ := hbusy k (Nat.lt_of_succ_lt_succ hk)
      exact ⟨v, runsTo_succ hstep hv, hvb⟩
  · rw [hfifo, List.append_assoc]

section
variable {ps more : List Pins} {b : Byte} {bs rest : List Byte} {s : State}

/-- The marker byte leaves the DISC phase of all the bytes after it (41_sync.md R92). -/
theorem Waiting.exists_step_mark (h : Waiting ps more (b :: bs) rest s) (hb : s.busy = true) (hphase : s.phase = .mark)
    (hlow : 1 ≤ (pos b).toNat) (hhigh : (pos b).toNat ≤ 13) :
    ∃ (t : State) (ps' : List Pins) (pushed : List Byte), step s = .next t ∧
      Waiting ps' more bs (rest ++ pushed) t ∧
      t.ctx = s.ctx ∧ t.phase = .disc ∧ t.marker = pos b ∧ t.cnt = 0#4 := by
  obtain ⟨d, x, t, ps', pushed, hstep, ht, hwait⟩ := h.exists_step hb (by simp [hphase])
  simp only [phaseByte_of_mark, hphase, markByte_of_le_thirteen hlow hhigh] at ht
  exact ⟨t, ps', pushed, hstep, hwait, ht ▸ ⟨rfl, rfl, rfl, rfl⟩⟩

/-- A byte that is not the last of a DISC phase (41_sync.md R93). -/
theorem Waiting.exists_step_disc (h : Waiting ps more (b :: bs) rest s) (hb : s.busy = true) (hphase : s.phase = .disc)
    (hlt : s.cnt.toNat + 1 < s.need.toNat) :
    ∃ (t : State) (ps' : List Pins) (pushed : List Byte), step s = .next t ∧
      Waiting ps' more bs (rest ++ pushed) t ∧
      t.ctx = s.ctx ∧ t.phase = .disc ∧ t.marker = s.marker ∧ t.cnt = s.cnt + 1#4 ∧ t.need = s.need := by
  obtain ⟨d, x, t, ps', pushed, hstep, ht, hwait⟩ := h.exists_step hb (by simp [hphase])
  simp only [phaseByte_of_disc, hphase, discByte_of_lt, hlt] at ht
  exact ⟨t, ps', pushed, hstep, hwait, ht ▸ ⟨rfl, rfl, rfl, rfl, rfl⟩⟩

/-- The last byte of a DISC phase completes the SYNC (41_sync.md R93, R95). -/
theorem Waiting.exists_step_disc_last (h : Waiting ps more (b :: bs) rest s) (hb : s.busy = true)
    (hphase : s.phase = .disc) (hctx : s.ctx = .sync) (hlast : s.cnt.toNat + 1 = s.need.toNat) :
    ∃ (t : State) (ps' : List Pins) (pushed : List Byte), step s = .next t ∧
      Waiting ps' more bs (rest ++ pushed) t ∧
      t.busy = false ∧ t.done = true ∧ t.err = .none ∧ t.marker = s.marker := by
  obtain ⟨d, x, t, ps', pushed, hstep, ht, hwait⟩ := h.exists_step hb (by simp [hphase])
  simp only [phaseByte_of_disc, hphase, discByte_of_last, hlast, syncDone_of_sync, hctx] at ht
  exact ⟨t, ps', pushed, hstep, hwait, ht ▸ ⟨rfl, rfl, rfl, rfl⟩⟩

/-- A DISC phase of a SYNC takes the bytes it still needs, one a cycle (41_sync.md R93, R95). -/
theorem syncsIn_of_disc (h : Waiting ps more (b :: bs) rest s) (hinv : Inv s) (hctx : s.ctx = .sync)
    (hphase : s.phase = .disc) (hneed : s.cnt.toNat + (bs.length + 1) = s.need.toNat) :
    SyncsIn (bs.length + 1) s.marker rest more s := by
  have hne : s.phase ≠ .idle := by simp [hphase]
  have hbusy : s.busy = true := hinv.busy_iff_running.mpr hne
  induction bs generalizing ps b rest s with
  | nil =>
    obtain ⟨t, ps', pushed, hstep, hwait, hbusy', hdone, herr, hmarker⟩ :=
      h.exists_step_disc_last hbusy hphase hctx hneed
    have hps : ps' = [] := List.eq_nil_of_length_eq_zero hwait.one_each
    have hinputs : t.inputs = more := by rw [hwait.inputs, hps, List.nil_append]
    have hfifo : t.fifo = rest ++ pushed ++ [] := by rw [hwait.fifo, List.nil_append, List.append_nil]
    have hnow : SyncsIn 0 s.marker (rest ++ pushed) more t :=
      ⟨nofun, t, [], rfl, hbusy', hdone, herr, hmarker, hfifo, hinputs⟩
    exact hnow.of_step hstep hbusy
  | cons b' bs ih =>
    have hlt : s.cnt.toNat + 1 < s.need.toNat := by rw [← hneed, List.length_cons]; omega
    obtain ⟨t, ps', pushed, hstep, hwait, hctx', hphase', hmarker, hcnt, hneed'⟩ :=
      h.exists_step_disc hbusy hphase hlt
    have hinv' : Inv t := invariantKeptByEveryStep s t hinv hstep
    have hne' : t.phase ≠ .idle := by simp [hphase']
    have hcount : t.cnt.toNat + (bs.length + 1) = t.need.toNat := by
      have hsucc : (s.cnt + 1#4).toNat = s.cnt.toNat + 1 := toNat_add_one_of_lt (hinv.count_below_need hne)
      rw [hcnt, hneed', hsucc, ← hneed, List.length_cons]
      omega
    have hrest := ih hwait hinv' (hctx'.trans hctx) hphase' hcount hne' (hinv'.busy_iff_running.mpr hne')
    rw [hmarker] at hrest
    exact hrest.of_step hstep hbusy

end

/-- Settles O57: the marker byte begins the DISC phase that the other bytes end. -/
theorem syncOfWaitingBytes : Obligations.SyncOfWaitingBytes := by
  intro s ps more m ds rest hinv hctx hphase hinputs hreset hfifo hlow hhigh hds hps
  have hbusy : s.busy = true := hinv.busy_iff_running.mpr (by simp [hphase])
  obtain ⟨b, bs, rfl⟩ : ∃ b bs, ds = b :: bs := List.exists_cons_of_length_pos (by omega)
  have hlen : ps.length = (m :: b :: bs).length := by rw [hps, List.length_cons, hds]; omega
  have hwait : Waiting ps more (m :: b :: bs) rest s := ⟨hinputs, hreset, hfifo, hlen⟩
  obtain ⟨t, ps', pushed, hstep, hwait', hctx', hphase', hmarker, hcnt⟩ :=
    hwait.exists_step_mark hbusy hphase hlow hhigh
  have hinv' : Inv t := invariantKeptByEveryStep s t hinv hstep
  have hneed : t.cnt.toNat + (bs.length + 1) = t.need.toNat := by
    obtain ⟨-, -, hneed⟩ := hinv'.need_in_disc hphase'
    rw [hneed, hmarker, ← hds, hcnt]
    exact Nat.zero_add _
  have hdisc := syncsIn_of_disc hwait' hinv' (hctx'.trans hctx) hphase' hneed
  rw [hmarker] at hdisc
  rw [hwait.one_each]
  exact hdisc.of_step hstep hbusy

end Sys2Proof.Machine
end

section
/-! PROOFS. The frame decode (42_frame_decode.md): the alignment check, the digit cells, the flag multiplexer, and the
ten instructions that the decode logic of a cycle is. -/

namespace Sys2Proof.Machine

/-! ## Alignment check -/

/-- A marker is right when the high nibble is the frame position (42_frame_decode.md R102). -/
theorem matchBit_iff (f : Frame) (i : Fin 14) : matchBit f i = true ↔ (f[i]).toNat / 16 = i.val + 1 := by
  have hmarker : (markerOf f i).toNat = (f[i]).toNat / 16 := by
    have hbyte := (f[i]).isLt
    simp only [markerOf, pos, BitVec.extractLsb'_toNat, Nat.shiftRight_eq_div_pow]
    omega
  have hpos : (BitVec.ofNat 4 (i.val + 1)).toNat = i.val + 1 := Nat.mod_eq_of_lt (by omega)
  rw [matchBit, beq_iff_eq, ← BitVec.toNat_inj, hmarker, hpos]

/-- Settles O35: ALIGNED says that every marker is right. -/
theorem alignedMeansEveryMarkerMatches : Obligations.AlignedMeansEveryMarkerMatches := fun f =>
  (aligned_iff f).trans (forall_congr' (matchBit_iff f))

/-! ## The lookup table -/

/-- Settles O29: a key that is none of the twelve is in no row of the table. -/
theorem lookupTable : Obligations.LookupTable := by
  refine ⟨rfl, rfl, rfl, rfl, rfl, rfl, rfl, rfl, rfl, rfl, rfl, rfl, fun key hkey => lut_unlisted key ?_, rfl⟩
  rw [List.any_eq_false]
  intro row hrow heq
  exact hkey (eq_of_beq heq ▸ List.mem_map_of_mem hrow)

/-! ## The digit cells -/

/-- The fields of a digit cell's byte (30_encoding.md R67). -/
theorem cellCode_fields (hb : Bool) (g : Nibble) :
    (cellCode hb g).extractLsb' 5 3 = 0#3 ∧ (cellCode hb g).getLsbD 4 = hb ∧
    (cellCode hb g).extractLsb' 0 4 = g := by
  revert hb g; decide

/-- KEY as a number: REM counts 16 above SEG (30_encoding.md R62). -/
theorem keyOf_eq_ofNat (f : Frame) (k : Fin 4) :
    keyOf f k = BitVec.ofNat 7 (16 * ((byteA f k).toNat % 8) + (byteB f k).toNat % 16) := by
  apply BitVec.eq_of_toNat_eq
  rw [keyOf, BitVec.toNat_cast, BitVec.toNat_append, ← Nat.shiftLeft_add_eq_or_of_lt (BitVec.isLt _)]
  simp only [BitVec.extractLsb'_toNat, BitVec.toNat_ofNat, Nat.shiftRight_zero, Nat.shiftLeft_eq]
  omega

/-- Settles O30: the fields of the cell's byte, with KEY as a number. -/
theorem digitCellRule : Obligations.DigitCellRule := by
  intro f k
  obtain ⟨hhigh, hhb, hglyph⟩ := cellCode_fields (hbOf f k) (lut (keyOf f k))
  exact ⟨hhigh, hhb, hglyph.trans (congrArg lut (keyOf_eq_ofNat f k))⟩

/-- Settles O31: the row that KEY decodes to drives the cell with Lut(KEY). -/
theorem digitPairsRunTheLookup : Obligations.DigitPairsRunTheLookup := fun k s =>
  runCode_digitPair k (hbOf s.frame k) (keyOf s.frame k) s

theorem extractLsb'_digitsWord (f : Frame) (k : Fin 4) : (digitsWord f).extractLsb' (8 * k.val) 8 = digitCell f k := by
  fin_cases k <;>
    simp (disch := decide) only [digitsWord, BitVec.extractLsb'_cast, BitVec.extractLsb'_append_eq_of_le,
      BitVec.extractLsb'_append_eq_of_add_le, Nat.reduceSub, Nat.reduceMul, BitVec.extractLsb'_eq_self] <;> rfl

/-- Settles O10: byte k of the word is cell k; the write is the identity. -/
theorem digitsRegister : Obligations.DigitsRegister :=
  ⟨isAt_addrOf 6#4, fun _ _ _ => rfl, fun _ s => ⟨digitsWord s.frame, rfl, extractLsb'_digitsWord s.frame⟩⟩

/-! ## The flag multiplexer -/

/-- For the powers of two downward the walk selects the bits: 2^n is reached exactly when bit n is set, and what remains
is the number below bit n (42_frame_decode.md R107). -/
theorem subtractiveWalk_two_pow (x n : Nat) :
    subtractiveWalk (x % 2 ^ n) ((List.range n).map (2 ^ ·)).reverse = ((List.range n).map x.testBit).reverse := by
  induction n with
  | zero => rfl
  | succ n ih =>
    have hbit : x % 2 ^ (n + 1) = x % 2 ^ n + 2 ^ n * (x.testBit n).toNat := by
      rw [Nat.toNat_testBit, Nat.mod_pow_succ]
    simp only [List.range_succ, List.map_append, List.map_singleton, List.reverse_concat, subtractiveWalk]
    cases hx : x.testBit n with
    | false =>
      have hrest : x % 2 ^ (n + 1) = x % 2 ^ n := by simpa [hx] using hbit
      have hnot : ¬ 2 ^ n ≤ x % 2 ^ n := Nat.not_le.mpr (Nat.mod_lt x (by positivity))
      simp [hrest, hnot, ih]
    | true =>
      have hrest : x % 2 ^ (n + 1) = x % 2 ^ n + 2 ^ n := by simpa [hx] using hbit
      simp [hrest, ih]

/-- The walk over a byte records the bits of its low nibble (42_frame_decode.md R107). -/
theorem walkNames_eq_bits (b : Byte) :
    walkNames b = [b.getLsbD 3, b.getLsbD 2, b.getLsbD 1, b.getLsbD 0] :=
  subtractiveWalk_two_pow b.toNat 4

/-- Settles O33: the walk selects the bits of the nibble, and FLAGS is driven by the same bits. -/
theorem subtractiveWalkIsBitSelect : Obligations.SubtractiveWalkIsBitSelect := by
  intro f bits
  simp [bits, walkNames_eq_bits, flagsWord_eq_driven, getLsbD_putBit]

/-! ## Digits and flags -/

section
variable {f g : Frame}

theorem getLsbD_low (b : Byte) {j : Nat} (hj : j < 4) : (low b).getLsbD j = b.getLsbD j := by
  simp [low, hj]

theorem digitCell_congr {k : Fin 4} (hA : low (byteA f k) = low (byteA g k)) (hB : low (byteB f k) = low (byteB g k)) :
    digitCell f k = digitCell g k := by
  have hhb (h : Frame) : hbOf h k = (low (byteA h k)).getLsbD 3 := (getLsbD_low (byteA h k) (by decide)).symm
  have hkey (h : Frame) : keyOf h k = ((low (byteA h k)).extractLsb' 0 3 ++ low (byteB h k)).cast rfl := by
    have hrem : (low (byteA h k)).extractLsb' 0 3 = (byteA h k).extractLsb' 0 3 := by simp [low]
    rw [hrem]
    rfl
  rw [digitCell, digitCell, hhb, hhb, hkey, hkey, hA, hB]

theorem frameBit_congr {i : Fin 14} {j : Nat} (h : low f[i] = low g[i]) (hj : j < 4) :
    frameBit f i j = frameBit g i j := by
  rw [frameBit, frameBit, ← getLsbD_low f[i] hj, ← getLsbD_low g[i] hj, h]

end

/-- Settles O34: a digit cell looks at two low nibbles, a flag at one bit of a low nibble. -/
theorem digitsAndFlagsAreDisjoint : Obligations.DigitsAndFlagsAreDisjoint := by
  intro f g
  refine ⟨fun hlow => ?_, fun hlow => ?_⟩
  · have hcell (k : Fin 4) : digitCell f k = digitCell g k :=
      digitCell_congr (hlow ⟨2 * k.val + 1, by omega⟩ (by grind) (by grind))
        (hlow ⟨2 * k.val + 2, by omega⟩ (by grind) (by grind))
    simp only [digitsWord, hcell]
  · have hbit (i : Fin 14) (hi : i.val = 0 ∨ 9 ≤ i.val) {j : Nat} (hj : j < 4) : frameBit f i j = frameBit g i j :=
      frameBit_congr (hlow i hi) hj
    simp (disch := decide) only [flagsWord, rsvdVec, measVec, scaleVec, flagVec, hbit]

/-! ## The decode logic as instructions -/

theorem andThen_assoc (r : Result) (f g : State → Result) :
    andThen (andThen r f) g = andThen r fun s => andThen (f s) g := by
  cases r <;> rfl

theorem andThen_next_right (r : Result) : andThen r .next = r := by
  cases r <;> rfl

/-- Running words that decode is running their rows in turn. -/
theorem andThen_runCodes {cs : List Code} {rows : List Instr} (h : cs.map decode = rows.map Except.ok) (r : Result) :
    andThen r (runCodes cs) = rows.foldl (fun r i => andThen r (exec i)) r := by
  induction cs generalizing rows r with
  | nil =>
    obtain rfl : rows = [] := List.map_eq_nil_iff.mp h.symm
    exact andThen_next_right r
  | cons c cs ih =>
    obtain ⟨i, rows, rfl, hi, hrows⟩ := List.map_eq_cons_iff.mp h.symm
    have hrun : runCode c = exec i := funext (runCode_of_decode hi.symm)
    calc andThen r (runCodes (c :: cs))
      _ = andThen (andThen r (exec i)) (runCodes cs) := by rw [andThen_assoc, ← hrun]; rfl
      _ = (i :: rows).foldl (fun r i => andThen r (exec i)) r := ih hrows.symm _

/-- The rows that the four digit pairs and the six flag nibbles of FRAME stand for (42_frame_decode.md R105, R108). -/
def frameRows (f : Frame) : List Instr :=
  [decodePair 0 (hbOf f 0) (keyOf f 0), decodePair 1 (hbOf f 1) (keyOf f 1),
   decodePair 2 (hbOf f 2) (keyOf f 2), decodePair 3 (hbOf f 3) (keyOf f 3),
   .flagsPos1 (low f[0]), .flagsPos10 (low f[9]), .flagsPos11 (low f[10]), .flagsPos12 (low f[11]),
   .flagsPos13 (low f[12]), .flagsPos14 (low f[13])]

/-- Every word that the decode logic forms is a row: `flagCode` puts the position in the word (log 8). -/
theorem decode_frameCodes (f : Frame) : (frameCodes f).map decode = (frameRows f).map Except.ok := by
  simp only [frameCodes, List.map_cons, List.map_nil, flagCode, decode, decodeFlag, pos_byteOf, low_byteOf]
  rfl

/-- Settles O39: the rows are `frameRows`. -/
theorem decodeLogicRunsTenRows : Obligations.DecodeLogicRunsTenRows := fun s =>
  ⟨frameRows s.frame, rfl, decode_frameCodes s.frame,
    andThen_runCodes (decode_frameCodes s.frame) (.next (clearNets s))⟩

end Sys2Proof.Machine
end

section
/-! PROOFS. The read loop (43_read.md): a READ that has no attempt, and what a CAP phase does with each of its bytes. -/

namespace Sys2Proof.Machine

section
variable {s : State}

/-! ## No attempt -/

/-- A READ without an attempt to spend gives up at once (43_read.md R117, R118). -/
theorem startRead_of_retryLimit_zero (h : s.retryLimit = 0#4) :
    startRead s = complete .readFailure { s with ctx := .read, valid := false, attempt := 0#4 } :=
  nextAttempt_of_le (BitVec.le_zero_iff.mpr h)

/-- Settles O20: with BUSY = 0 the guarded command acts, and attempt 0 is the limit. -/
theorem readWithNoRetryBudgetFails : Obligations.ReadWithNoRetryBudgetFails := by
  intro lane rest s hb hlimit
  have hstart := startRead_of_retryLimit_zero (s := accept s) hlimit
  exact congrArg Host.Outcome.next ((busyGuarded_of_not_busy hb _).trans hstart)

/-! ## The byte of a CAP phase -/

theorem phaseByte_of_cap (h : s.phase = .cap) (onMark : State → State) (b : Byte) :
    phaseByte onMark b s = capByte b s := by
  rw [phaseByte, h]

theorem capByte_of_lt (h : s.cnt.toNat < 13) (b : Byte) :
    capByte b s = tick { storeByte b s with cnt := s.cnt + 1#4 } :=
  if_neg (by omega)

theorem capByte_of_last (h : s.cnt = 13#4) (b : Byte) : capByte b s = captureDone (storeByte b s) :=
  if_pos (by rw [h]; rfl)

theorem captureDone_of_aligned (h : aligned s.frame = true) : captureDone s = success s := if_pos h

theorem captureDone_of_not_aligned (h : ¬ aligned s.frame = true) : captureDone s = resync s := if_neg h

theorem setIfInBounds_eq_set (f : Frame) {n : Nat} (hn : n < 14) (b : Byte) : f.setIfInBounds n b = f.set n b :=
  Vector.toList_inj.mp (Vector.toList_setIfInBounds.trans (Vector.toList_set hn).symm)

/-- Before the fifteenth a byte has its place in FRAME (43_read.md R119). -/
theorem storeByte_of_lt (h : s.cnt.toNat < 14) (b : Byte) :
    storeByte b s = { s with frame := s.frame.set s.cnt.toNat b, rxcnt := s.cnt + 1#4 } := by
  rw [storeByte, setIfInBounds_eq_set s.frame h]

theorem storeByte_of_last (h : s.cnt = 13#4) (b : Byte) :
    storeByte b s = { s with frame := s.frame.set 13 b, rxcnt := 14#4 } := by
  rw [storeByte_of_lt (by rw [h]; decide)]
  simp only [h]
  rfl

end

/-- Settles O27: a CAP phase does not look at the class; the fourteenth byte's FRAME is checked with the byte in it. -/
theorem capturedBytes : Obligations.CapturedBytes := by
  intro p d s hcap b
  rw [exec_fbInstr, phaseByte_of_cap hcap]
  refine ⟨fun hlt => ?_, fun hlast hmatch => ?_, fun hlast hmiss => ?_⟩
  · rw [capByte_of_lt hlt, tick, satIncr_eq_ofNat, storeByte_of_lt (Nat.lt_succ_of_lt hlt)]
  · have hal : aligned (storeByte b s).frame = true := by
      rw [storeByte_of_last hlast, aligned_iff_pos]
      exact hmatch
    rw [capByte_of_last hlast, captureDone_of_aligned hal, storeByte_of_last hlast]
    rfl
  · have hmis : ¬ aligned (storeByte b s).frame = true := by
      rw [storeByte_of_last hlast, aligned_iff_pos]
      exact not_forall.mpr hmiss
    rw [capByte_of_last hlast, captureDone_of_not_aligned hmis, storeByte_of_last hlast]
    rfl

end Sys2Proof.Machine
end

section
/-! PROOFS. A READ whose frame waits (43_read.md R121, R127; 70_reset_and_hazards.md R163): each cycle of the CAP phase
stores one of the bytes, and the fourteenth finds them aligned. -/

namespace Sys2Proof.Machine

/-! ## The bytes stored so far -/

/-- FRAME[0..CNT-1], the bytes that a running CAP phase has stored (43_read.md R119). -/
def State.captured (s : State) : List Byte := s.frame.toList.take s.cnt.toNat

/-- A stored byte stands behind the bytes stored before it (43_read.md R119). -/
theorem take_frame_storeByte {s : State} (h : s.cnt.toNat < 14) (b : Byte) :
    (storeByte b s).frame.toList.take (s.cnt.toNat + 1) = s.captured ++ [b] := by
  have hlen : s.cnt.toNat < s.frame.toList.length := by rwa [Vector.length_toList]
  rw [storeByte_frame, Vector.toList_setIfInBounds, List.take_add_one, List.take_set_of_le le_rfl,
    List.getElem?_set_self hlen, Option.toList_some, State.captured]

/-- With the fourteenth byte FRAME holds the captured bytes and nothing else (10_state.md R27). -/
theorem toList_frame_storeByte_of_last {s : State} (h : s.cnt.toNat = 13) (b : Byte) :
    (storeByte b s).frame.toList = s.captured ++ [b] := by
  rw [← take_frame_storeByte (by omega) b, h, List.take_of_length_le (by simp)]

/-- ALIGNED, of the bytes of FRAME as a list (42_frame_decode.md R103). -/
theorem aligned_of_toList {f : Frame} (h : ∀ i < 14, pos (f.toList.getD i 0#8) = BitVec.ofNat 4 (i + 1)) :
    aligned f = true := by
  rw [aligned_iff_pos]
  intro i
  simpa using h i i.isLt

/-! ## The cycles of the CAP phase -/

/-- What a READ of the bytes `bs` leaves (43_read.md R121): its outcome and results, then `rest` at the head of the
FIFO and the pins `more`. -/
structure ReadDone (attempt : Nibble) (bs rest : List Byte) (more : List Pins) (t : State) : Prop where
  busy : t.busy = false
  done : t.done = true
  err : t.err = .none
  valid : t.valid = true
  frame : t.frame.toList = bs
  attempt : t.attempt = attempt
  rxcnt : t.rxcnt = 14#4
  fifo : rest <+: t.fifo
  inputs : t.inputs = more

section
variable {ps more : List Pins} {b : Byte} {bs rest : List Byte} {s : State}

/-- A byte that is not the last of a CAP phase (43_read.md R119). -/
theorem Waiting.exists_step_cap (h : Waiting ps more (b :: bs) rest s) (hb : s.busy = true) (hphase : s.phase = .cap)
    (hlt : s.cnt.toNat < 13) :
    ∃ (t : State) (ps' : List Pins) (pushed : List Byte), step s = .next t ∧
      Waiting ps' more bs (rest ++ pushed) t ∧
      t.busy = true ∧ t.phase = .cap ∧ t.attempt = s.attempt ∧ t.cnt.toNat = s.cnt.toNat + 1 ∧
      t.captured = s.captured ++ [b] := by
  obtain ⟨d, x, t, ps', pushed, hstep, ht, hwait⟩ := h.exists_step hb (by simp [hphase])
  have hcnt : (s.cnt + 1#4).toNat = s.cnt.toNat + 1 := toNat_add_one_of_lt (n := 13#4) hlt
  have hstored : (storeByte b s).frame.toList.take (s.cnt + 1#4).toNat = s.captured ++ [b] := by
    rw [hcnt, take_frame_storeByte (Nat.lt_succ_of_lt hlt)]
  -- The byte acts on `s` with other pins and DONE, which `hphase` and `hlt` do not look at.
  rw [phaseByte_of_cap (by exact hphase), capByte_of_lt (by exact hlt)] at ht
  exact ⟨t, ps', pushed, hstep, hwait, ht ▸ ⟨hb, hphase, rfl, hcnt, hstored⟩⟩

/-- The fourteenth byte of an aligned frame completes the READ (43_read.md R120, R121). -/
theorem Waiting.exists_step_cap_last (h : Waiting ps more [b] rest s) (hb : s.busy = true)
    (hphase : s.phase = .cap) (hlast : s.cnt = 13#4)
    (hpos : ∀ i < 14, pos ((s.captured ++ [b]).getD i 0#8) = BitVec.ofNat 4 (i + 1)) :
    ∃ t : State, step s = .next t ∧ ReadDone s.attempt (s.captured ++ [b]) rest more t := by
  obtain ⟨d, x, t, ps', pushed, hstep, ht, hwait⟩ := h.exists_step hb (by simp [hphase])
  have hframe : (storeByte b s).frame.toList = s.captured ++ [b] :=
    toList_frame_storeByte_of_last (by rw [hlast]; rfl) b
  have hal : aligned (storeByte b s).frame = true := aligned_of_toList (by rwa [hframe])
  rw [phaseByte_of_cap (by exact hphase), capByte_of_last (by exact hlast), captureDone_of_aligned (by exact hal)] at ht
  have hps : ps' = [] := List.eq_nil_of_length_eq_zero hwait.one_each
  have hrx : s.cnt + 1#4 = 14#4 := by rw [hlast]; rfl
  exact ⟨t, hstep, {
    busy := ht ▸ rfl
    done := ht ▸ rfl
    err := ht ▸ rfl
    valid := ht ▸ rfl
    frame := ht ▸ hframe
    attempt := ht ▸ rfl
    rxcnt := ht ▸ hrx
    fifo := ⟨pushed, hwait.fifo.symm⟩
    inputs := by rw [hwait.inputs, hps, List.nil_append] }⟩

/-! ## The run -/

/-- From `s` the machine is busy for `n` cycles, and `P` holds after them. -/
def BusyUntil (n : Nat) (P : State → Prop) (s : State) : Prop :=
  (∀ k < n, ∃ t : State, RunsTo k s t ∧ t.busy = true) ∧ ∃ t : State, RunsTo n s t ∧ P t

theorem BusyUntil.of_step {n : Nat} {P : State → Prop} {s t : State} (h : BusyUntil n P t)
    (hstep : step s = .next t) (hb : s.busy = true) : BusyUntil (n + 1) P s := by
  obtain ⟨hbusy, u, hrun, hu⟩ := h
  refine ⟨fun k hk => ?_, u, runsTo_succ hstep hrun, hu⟩
  cases k with
  | zero => exact ⟨s, rfl, hb⟩
  | succ k =>
    obtain ⟨v, hv, hvb⟩ := hbusy k (Nat.lt_of_succ_lt_succ hk)
    exact ⟨v, runsTo_succ hstep hv, hvb⟩

theorem BusyUntil.imp {n : Nat} {P Q : State → Prop} {s : State} (h : BusyUntil n P s) (hPQ : ∀ t, P t → Q t) :
    BusyUntil n Q s := by
  obtain ⟨hbusy, t, hrun, ht⟩ := h
  exact ⟨hbusy, t, hrun, hPQ t ht⟩

/-- A CAP phase of a waiting aligned frame takes the bytes it still needs, one a cycle (43_read.md R119, R121). -/
theorem busyUntil_readDone_of_cap (h : Waiting ps more (b :: bs) rest s) (hb : s.busy = true)
    (hphase : s.phase = .cap) (hneed : s.cnt.toNat + bs.length = 13)
    (hpos : ∀ i < 14, pos ((s.captured ++ b :: bs).getD i 0#8) = BitVec.ofNat 4 (i + 1)) :
    BusyUntil (bs.length + 1) (ReadDone s.attempt (s.captured ++ b :: bs) rest more) s := by
  induction bs generalizing ps b rest s with
  | nil =>
    obtain ⟨t, hstep, hdone⟩ := h.exists_step_cap_last hb hphase (BitVec.eq_of_toNat_eq hneed) hpos
    have hnow : BusyUntil 0 (ReadDone s.attempt (s.captured ++ [b]) rest more) t := ⟨nofun, t, rfl, hdone⟩
    exact hnow.of_step hstep hb
  | cons b' bs ih =>
    have hlt : s.cnt.toNat < 13 := by rw [← hneed, List.length_cons]; omega
    obtain ⟨t, ps', pushed, hstep, hwait, hb', hphase', hattempt, hcnt, hcaptured⟩ := h.exists_step_cap hb hphase hlt
    have hneed' : t.cnt.toNat + bs.length = 13 := by rw [hcnt, ← hneed, List.length_cons]; omega
    have hbytes : t.captured ++ b' :: bs = s.captured ++ b :: b' :: bs := by
      rw [hcaptured, List.append_assoc, List.singleton_append]
    have hrest := ih hwait hb' hphase' hneed' (by rwa [hbytes])
    rw [hbytes, hattempt] at hrest
    have hrest' := hrest.imp fun u hu => { hu with fifo := (List.prefix_append rest pushed).trans hu.fifo }
    exact hrest'.of_step hstep hb

end

/-- Settles O58: at the start of the CAP phase nothing is stored, and the frame is what waits. -/
theorem readOfAWaitingFrame : Obligations.ReadOfAWaitingFrame := by
  intro s ps more bs rest hinv hphase hcnt hinputs hreset hps hfifo hbs hpos
  have hb : s.busy = true := hinv.busy_iff_running.mpr (by simp [hphase])
  obtain ⟨b, bs, rfl⟩ := List.exists_cons_of_length_eq_add_one hbs
  have hwait : Waiting ps more (b :: bs) rest s := ⟨hinputs, hreset, hfifo, hps.trans hbs.symm⟩
  have hlen : bs.length = 13 := Nat.succ.inj hbs
  have hneed : s.cnt.toNat + bs.length = 13 := by rw [hcnt, hlen]; rfl
  have hcaptured : s.captured = [] := by rw [State.captured, hcnt]; rfl
  have hread := busyUntil_readDone_of_cap hwait hb hphase hneed (by rwa [hcaptured])
  rw [hlen, hcaptured, List.nil_append] at hread
  obtain ⟨hrunning, t, hrun, hbusy, hdone, herr, hvalid, hframe, hattempt, hrxcnt, ⟨pushed, hpushed⟩, hmore⟩ := hread
  exact ⟨hrunning, t, pushed, hrun, hbusy, hdone, herr, hvalid, hframe, hattempt, hrxcnt, hpushed.symm, hmore⟩

end Sys2Proof.Machine
end

section
/-! PROOFS. What a cycle never does: stop the clock (60_exceptions.md R128), change an idle machine but by the push
(R148), let the host disturb a running command (R149). -/

namespace Sys2Proof.Machine

/-- Settles O42: a cycle is a reset or a run, and each answers a next state. -/
theorem everyStepAnswersNext : Obligations.EveryStepAnswersNext := exists_step

/-! ## An idle cycle -/

/-- Without a write the host reaches the output nets alone (20_memory.md R44). -/
theorem hostAccess_of_not_write {p : Pins} {s t : State} (hwr : p.busWr = false) (h : hostAccess p s = .next t) :
    ∃ out, t = { s with out := out } := by
  rw [hostAccess, busCode, if_neg (by simp [hwr])] at h
  split at h
  · next c hc =>
    obtain ⟨-, rfl⟩ : p.busRd = true ∧ .busRead p.busAddr = c := by simpa using hc
    obtain ⟨w, hread⟩ := exec_decodeRead p.busAddr s
    cases h.symm.trans hread
    exact ⟨_, rfl⟩
  · cases h
    exact ⟨_, rfl⟩

/-- The push reaches the FIFO and OVR alone (20_memory.md R53). -/
theorem push_eq (p : Pins) (s : State) : push p s = { s with fifo := (push p s).fifo, ovr := (push p s).ovr } := by
  obtain ⟨-, e⟩ | ⟨-, -, e⟩ | ⟨-, -, e⟩ := push_cases p s <;> simp only [e, setOvr]

/-- Settles O51: an idle cycle with no write is the host's read, if any, and the push. -/
theorem idleCycleOnlyPushes : Obligations.IdleCycleOnlyPushes := by
  intro s t hidle hrst hwr hstep
  obtain ⟨hreset, -⟩ | ⟨-, u, -, haccess, rfl⟩ := step_cases hstep
  · simp [hrst] at hreset
  have hphase : (nextPins s).2.phase = .idle := by
    obtain ⟨ps, n, hpins⟩ := nextPins_eq s
    rw [hpins]
    exact hidle
  obtain ⟨out, rfl⟩ := hostAccess_of_not_write hwr haccess
  rw [if_pos hphase, push_eq]
  rfl

/-! ## What the host can change of a running command -/

/-- `s` without the elements the host may reach while a command runs: DONE_IE, IGN, OVR and the output nets
(60_exceptions.md R149). -/
def State.undisturbed (s : State) : State :=
  s.setBystanders { doneIe := false, ign := false, ovr := false, fifo := s.fifo, out := Outputs.reset }

theorem eq_of_undisturbed_eq {s t : State} (h : s.undisturbed = t.undisturbed) :
    t = { s with doneIe := t.doneIe, ign := t.ign, ovr := t.ovr, out := t.out } := by
  change t = { s.undisturbed with doneIe := t.doneIe, ign := t.ign, ovr := t.ovr, out := t.out }
  rw [h]
  rfl

/-- While a command runs the host reaches DONE and what `undisturbed` leaves out (40_dispatch.md R78). -/
theorem HostChange.undisturbed_eq {s t : State} (h : HostChange s t) (hb : s.busy = true) (hdone : t.done = s.done) :
    t.undisturbed = s.undisturbed := by
  have ht := h.eq_setBystanders hb
  rw [hdone] at ht
  rw [State.undisturbed, h.fifo_eq, ht]
  rfl

theorem PhaseLocal.undisturbed_eq {f : State → State} (hf : PhaseLocal f) (s : State) :
    (f s).undisturbed = f s.undisturbed := by
  rw [State.undisturbed, State.undisturbed, hf, hf.fifo_eq]

/-- The sequencer's turn does not look at what the host may reach (40_dispatch.md R81). -/
theorem turn_undisturbed (s : State) : (turn s).undisturbed = turn s.undisturbed := by
  obtain ⟨f, hf, hturn⟩ := turn_phaseLocal s.fifo
  rw [hturn s rfl, hturn s.undisturbed rfl, hf.undisturbed_eq]
  rfl

/-- Nor does the push, but for the OVR it sets (20_memory.md R53). -/
theorem push_undisturbed (p : Pins) (s : State) : (push p s).undisturbed = (push p s.undisturbed).undisturbed := by
  simp only [push, apply_ite State.undisturbed]
  rfl

theorem push_congr {p q : Pins} (hvalid : p.rxValid = q.rxValid) (hdata : p.rxData = q.rxData) (s : State) :
    push p s = push q s := by
  rw [push, push, hvalid, hdata]

/-- A cycle of a running command: the turn and the push, whatever the host does (60_exceptions.md R149). -/
theorem runCycle_undisturbed {s : State} (p : Pins) (hb : s.busy = true) (hne : s.phase ≠ .idle)
    (hdone : s.done = false) :
    ∃ t, runCycle p s = .next t ∧ t.undisturbed = (push p (turn s.undisturbed)).undisturbed := by
  obtain ⟨u, hc, haccess, hrun⟩ := runCycle_cases p s
  have hdone' : u.done = false := (irqChange_hostAccess haccess).done_eq_false hb hdone
  have hu : u.undisturbed = s.undisturbed := hc.undisturbed_eq hb (hdone'.trans hdone.symm)
  rw [if_neg hne] at hrun
  refine ⟨_, hrun, ?_⟩
  rw [push_undisturbed, turn_undisturbed, hu]

/-- Settles O52: DONE is 0 while a command runs, so a clear of DONE changes nothing either, and what the host does
change neither the turn nor the push looks at. -/
theorem hostCannotDisturbACommand : Obligations.HostCannotDisturbACommand := by
  intro s p q rest hinv hb hp hq hvalid hdata
  have hne : s.phase ≠ .idle := hinv.busy_iff_running.mp hb
  have hdone : s.done = false := (hinv.no_outcome_while_running hne).1
  obtain ⟨t, hrunp, ht⟩ := runCycle_undisturbed (s := { s with inputs := rest }) p hb hne hdone
  obtain ⟨u, hrunq, hu⟩ := runCycle_undisturbed (s := { s with inputs := rest }) q hb hne hdone
  rw [push_congr hvalid hdata] at ht
  exact ⟨t, u, step_eq_of_runCycle hp hrunp, step_eq_of_runCycle hq hrunq, eq_of_undisturbed_eq (ht.trans hu.symm)⟩

end Sys2Proof.Machine
end

section
/-! PROOFS. What a reset leaves (70_reset_and_hazards.md R150), and the configuration that a running command keeps
(R161). -/

namespace Sys2Proof.Machine

/-! ## The views of the all-zero frame -/

/-- A blank digit cell shows 0x0B: key 0 is the blank of the table (42_frame_decode.md R104, R105). -/
theorem digitsWord_frameZero : digitsWord frameZero = 0x0B0B0B0B#32 := by decide

theorem flagsWord_frameZero : flagsWord frameZero = 0#32 := by decide

theorem frameWords_frameZero : frame0Word frameZero = 0#32 ∧ frame1Word frameZero = 0#32 ∧
    frame2Word frameZero = 0#32 ∧ frame3Word frameZero = 0#32 := by decide

theorem resultWord_resetOf (b : Build) : resultWord (State.resetOf b) = 0#32 := by
  rw [resultWord, resetOf_marker, resetOf_rxcnt, resetOf_attempt]
  rfl

/-! ## The reset cycle -/

/-- A cycle with rst = 1 keeps the build and what is left of the pins, and nothing else (log 16). -/
theorem step_of_rst {s : State} (h : (nextPins s).1.rst = true) : step s = .next
    { State.resetOf s.build with inputs := (nextPins s).2.inputs, draws := (nextPins s).2.draws } := by
  rw [step_eq_ite, if_pos h, resetCycle, nextPins_build]

/-- Settles O40: the cycle gives RESET_STATE but for the pins to come, which no view looks at. -/
theorem resetCycleGivesResetState : Obligations.ResetCycleGivesResetState := by
  intro s hrst
  have hframe : ∀ i : Fin 14, frameZero[i] = 0#8 := fun i => Vector.getElem_replicate i.isLt
  obtain ⟨hframe0, hframe1, hframe2, hframe3⟩ := frameWords_frameZero
  exact ⟨_, step_of_rst hrst, rfl, timeoutReset_toNat s.build.fClkHz, rfl, rfl, rfl, rfl, rfl, rfl, rfl, rfl, rfl, rfl,
    rfl, rfl, rfl, hframe, rfl, rfl, rfl, rfl, rfl, digitsWord_frameZero, flagsWord_frameZero,
    alignWord_resetOf s.build, hframe0, hframe1, hframe2, hframe3, resultWord_resetOf s.build,
    statusWord_resetOf s.build⟩

/-! ## The configuration while a command runs -/

/-- No move of the sequencer writes the configuration (70_reset_and_hazards.md R161). -/
theorem Move.config_eq {c c' : Control} (h : Move c c') : c'.retryLimit = c.retryLimit ∧ c'.timeout = c.timeout := by
  cases h <;> exact ⟨rfl, rfl⟩

/-- With BUSY = 1 and PHASE = IDLE a cycle without reset may clear DONE and changes nothing else of the control part
(40_dispatch.md R74, R78). -/
theorem step_control_of_idle {s t : State} (hstep : step s = .next t) (hrst : (nextPins s).1.rst = false)
    (hb : s.busy = true) (hidle : s.phase = .idle) : t.control = { s.control with done := t.done } := by
  obtain ⟨hreset, -⟩ | ⟨-, u, hc, -, rfl⟩ := step_cases hstep
  · simp [hrst] at hreset
  obtain ⟨ps, n, hpins⟩ := nextPins_eq s
  rw [hpins] at hc ⊢
  have hu : u.control = { s.control with done := u.done } := hc.control_eq hb
  have hdone : (push (nextPins s).1 u).done = u.done := congrArg Control.done (push_control _ u)
  rw [if_pos hidle, push_control, hdone, hu]

/-- Settles O48: neither the host nor the sequencer writes the configuration while BUSY = 1. -/
theorem configurationFixedWhileBusy : Obligations.ConfigurationFixedWhileBusy := by
  intro s t hrst hstep hb
  by_cases hidle : s.phase = .idle
  · have hcontrol := step_control_of_idle hstep hrst hb hidle
    exact ⟨congrArg Control.retryLimit hcontrol, congrArg Control.timeout hcontrol⟩
  · obtain ⟨d, hmove⟩ := step_move hstep hrst hb hidle
    exact hmove.config_eq

end Sys2Proof.Machine
end

section
/-! PROOFS. The words of the spec's programs and examples (95_test_vectors.md), decoded by the round trip of
30_encoding.md R57 to R68. -/

namespace Sys2Proof.Machine

/-- To know what a word decodes to it is enough to encode the instruction. -/
theorem Encodes.decode_eq {i : Instr} {c : Code} (h : Encodes i c) : decode c = .ok i := by
  obtain ⟨rfl, hwf⟩ := h
  exact decodeEncodeRoundTrip i hwf

/-- Position 2 carries no flags (30_encoding.md R68). -/
theorem decodeFlag_byteOf_two (d : Nibble) : decodeFlag (byteOf 2#4 d) = .error (.notAFlagPosition 2#4) := by
  rw [decodeFlag, pos_byteOf]
  rfl

/-- Settles O3: fourteen of the words encode the instructions they are to decode to, and the fifteenth is a flag nibble
at position 2. -/
theorem wordsOfTheSpecDecode : Obligations.WordsOfTheSpecDecode := by
  unfold Obligations.WordsOfTheSpecDecode
  refine ⟨?_, ?_, ?_, ?_, ?_, ?_, ?_, ?_, ?_, ?_, ?_, ?_, ?_, ?_, decodeFlag_byteOf_two 0xF#4⟩
  all_goals exact Encodes.decode_eq ⟨rfl, rfl⟩

end Sys2Proof.Machine
end
